-- ==== Sys2Proof/Word.lean ====
section
/-! DEFINITION. The two value types of the hardware (00_scope.md R5, R11): bytes and 16-bit words. -/

namespace Sys2Proof

/-- A byte, `u8` (00_scope.md R11): every data value and every register but PC. -/
abbrev Byte := BitVec 8

/-- A word, `u16` (00_scope.md R11): every address. -/
abbrev Word := BitVec 16

end Sys2Proof
end

