-- ==== Sys2Proof/Machine/Alu.lean ====
section
/-! DEFINITION. The arithmetic unit, 6502_alu (40_flag_update_and_alu.md R104 to R115): pure functions from bytes to a
result byte and the conditions for the flags. Carries are Booleans; sums are computed exactly and narrowed at the
end. -/

namespace Sys2Proof.Machine

/-- A result byte with its carry out. -/
structure Carried where
  r : Byte
  cout : Bool
  deriving DecidableEq, Repr

/-- A sum: result, carry out of bit 7, signed overflow (R105). -/
structure Sum where
  r : Byte
  cout : Bool
  vout : Bool
  deriving DecidableEq, Repr

/-- What BIT tests (R109). -/
structure BitTest where
  z : Bool
  n : Bool
  v : Bool
  deriving DecidableEq, Repr

/-- `ALU_ADD` (R105). -/
def aluAdd (a m : Byte) (cin : Bool) : Sum :=
  let s := a.toNat + m.toNat + cin.toNat
  let r := BitVec.ofNat 8 s
  { r := r
    cout := decide (s > 255)
    vout := (a.getLsbD 7 == m.getLsbD 7) && (r.getLsbD 7 != a.getLsbD 7) }

/-- `ALU_SUB` (R106): addition of the one's complement, the carry being not-borrow. -/
def aluSub (a m : Byte) (cin : Bool) : Sum := aluAdd a (m ^^^ 0xFF) cin

/-- `ALU_CMP` (R107): the subtraction without borrow, its overflow dropped. -/
def aluCmp (a m : Byte) : Carried :=
  let s := aluSub a m true
  { r := s.r, cout := s.cout }

/-- `ALU_AND` (R108). -/
def aluAnd (a m : Byte) : Byte := a &&& m

/-- `ALU_ORA` (R108). -/
def aluOra (a m : Byte) : Byte := a ||| m

/-- `ALU_EOR` (R108). -/
def aluEor (a m : Byte) : Byte := a ^^^ m

/-- `ALU_BIT` (R109): N and V come from the memory operand. -/
def aluBit (a m : Byte) : BitTest := { z := (a &&& m) == 0#8, n := m.getLsbD 7, v := m.getLsbD 6 }

/-- `ALU_INC` (R110). -/
def aluInc (v : Byte) : Byte := v + 1

/-- `ALU_DEC` (R110). -/
def aluDec (v : Byte) : Byte := v - 1

/-- `ALU_ASL` (R111). -/
def aluAsl (v : Byte) : Carried := { r := v <<< 1, cout := v.getLsbD 7 }

/-- `ALU_LSR` (R112). -/
def aluLsr (v : Byte) : Carried := { r := v >>> 1, cout := v.getLsbD 0 }

/-- A carry as bit 0 of a byte. -/
def carryIn (cin : Bool) : Byte := if cin then 0x01 else 0x00

/-- `ALU_ROL` (R113): the carry comes in at bit 0. -/
def aluRol (v : Byte) (cin : Bool) : Carried := { r := (v <<< 1) ||| carryIn cin, cout := v.getLsbD 7 }

/-- `ALU_ROR` (R114): the carry comes in at bit 7. -/
def aluRor (v : Byte) (cin : Bool) : Carried := { r := (v >>> 1) ||| (carryIn cin <<< 7), cout := v.getLsbD 0 }

/-- `ALU_PASS` (R115). -/
def aluPass (v : Byte) : Byte := v

end Sys2Proof.Machine
end

