-- ==== Sys2Proof/Config.lean ====
section
/-! DEFINITION. The implementation parameters of 00_scope.md R6. Four of them are plain data that a rule reads: they
are a record that `State` carries and no step changes (log entry 1). Two are fixed by decision (92_eei_decisions.md,
last paragraph) and are constants. `CYCLE_TABLE` is an argument of `stepCycles` (Machine/Engine.lean). -/

namespace Sys2Proof

/-- `TABLE_PROFILE` (00_scope.md R6, 30_encoding.md R88): which rows of the opcode table are mapped. -/
inductive TableProfile where
  /-- All 151 rows of the opcode table. -/
  | full
  /-- Only the five rows the source itself shows: A9, A5, B5, AD, A1. -/
  | sourceShown
  deriving DecidableEq, Repr

/-- `DECIMAL_MODE` (00_scope.md R6, 40_flag_update_and_alu.md R117, 93_implementation_defined.md U3). -/
inductive DecimalMode where
  /-- Flag D never changes what ADC and SBC compute. -/
  | binaryOnly
  /-- ADC and SBC have no meaning when D = 1. -/
  | refuse
  deriving DecidableEq, Repr

/-- The addresses `first` to `last`, both included. -/
structure AddrRange where
  first : Word
  last : Word
  deriving DecidableEq, Repr

/-- The parameters of one machine (00_scope.md R6). -/
structure Config where
  /-- `TABLE_PROFILE`. -/
  tableProfile : TableProfile
  /-- `DECIMAL_MODE`. -/
  decimalMode : DecimalMode
  /-- `JMP_IND_PAGE_WRAP` (41_address_resolver.md R142). -/
  jmpIndPageWrap : Bool
  /-- `BUS_REJECTS` (20_memory.md R53): the set of rejected addresses, as a union of ranges. -/
  busRejects : List AddrRange
  deriving DecidableEq, Repr

/-- The default of every parameter (00_scope.md R6): this hardware. -/
def Config.standard : Config :=
  { tableProfile := .full, decimalMode := .binaryOnly, jmpIndPageWrap := true, busRejects := [] }

/-- `STACK_PAGE` (00_scope.md R6, 10_state.md R25): the high byte of every stack address. -/
def stackPage : Byte := 0x01

/-- `BRK_VECTOR` (00_scope.md R6, 46_stack_flags_system.md R262): the address of the low byte of the BRK target. -/
def brkVector : Word := 0xFFFE

end Sys2Proof
end

