-- ==== Sys2Proof/Syntax.lean ====
section
/-! DEFINITION. The instruction set as syntax: `Instr`, one constructor per row of spec/opcode_table.json (151 rows,
30_encoding.md R86, R87), each carrying the operand its row has (R83); and the names the spec uses for what an
instruction is made of: the 56 mnemonics, the 13 addressing-mode tags (R84), a mode together with its operand bytes. -/

namespace Sys2Proof

/-- The 56 mnemonics (30_encoding.md R87). -/
inductive Mnemonic where
  | LDA | LDX | LDY | STA | STX | STY | TAX | TAY | TXA | TYA | TSX | TXS
  | ADC | SBC | AND | ORA | EOR | BIT | CMP | CPX | CPY | INC | DEC | INX | INY | DEX | DEY
  | ASL | LSR | ROL | ROR
  | BCC | BCS | BEQ | BNE | BMI | BPL | BVC | BVS | JMP | JSR | RTS
  | PHA | PHP | PLA | PLP | CLC | SEC | CLI | SEI | CLD | SED | CLV | NOP | BRK | RTI
  deriving DecidableEq, Repr

/-- The 13 addressing-mode tags (30_encoding.md R84). -/
inductive Mode where
  | imp | acc | imm | zp | zpx | zpy | abs | absx | absy | ind | indx | indy | rel
  deriving DecidableEq, Repr

/-- An addressing mode with the operand bytes that follow the opcode, assembled by kind (30_encoding.md R83): `imm8`,
`addr8` and `rel8` are a byte, `addr16` a word. The resolver works on this (41_address_resolver.md). -/
inductive Operand where
  /-- Implied (41_address_resolver.md R133). -/
  | imp
  /-- Accumulator (41_address_resolver.md R134). -/
  | acc
  /-- Immediate (41_address_resolver.md R135). -/
  | imm (v : Byte)
  /-- Zero Page (41_address_resolver.md R136). -/
  | zp (b : Byte)
  /-- Zero Page,X (41_address_resolver.md R137). -/
  | zpx (b : Byte)
  /-- Zero Page,Y (41_address_resolver.md R138). -/
  | zpy (b : Byte)
  /-- Absolute (41_address_resolver.md R139). -/
  | abs (a : Word)
  /-- Absolute,X (41_address_resolver.md R140). -/
  | absx (a : Word)
  /-- Absolute,Y (41_address_resolver.md R141). -/
  | absy (a : Word)
  /-- Absolute Indirect (41_address_resolver.md R142). -/
  | ind (a : Word)
  /-- Indexed Indirect (X) (41_address_resolver.md R143). -/
  | indx (b : Byte)
  /-- Indirect Indexed (Y) (41_address_resolver.md R144). -/
  | indy (b : Byte)
  /-- Relative (41_address_resolver.md R145). -/
  | rel (d : Byte)
  deriving DecidableEq, Repr

/-- The instructions: one constructor per row of the opcode table. A name is the mnemonic in small letters with its
mode tag; the tag is left out where the mnemonic has one mode (Implied, Relative, and Absolute for JSR). -/
inductive Instr where
  -- 42_load_store_transfer.md
  | ldaImm (v : Byte)
  | ldaZp (b : Byte)
  | ldaZpx (b : Byte)
  | ldaAbs (a : Word)
  | ldaAbsx (a : Word)
  | ldaAbsy (a : Word)
  | ldaIndx (b : Byte)
  | ldaIndy (b : Byte)
  | ldxImm (v : Byte)
  | ldxZp (b : Byte)
  | ldxZpy (b : Byte)
  | ldxAbs (a : Word)
  | ldxAbsy (a : Word)
  | ldyImm (v : Byte)
  | ldyZp (b : Byte)
  | ldyZpx (b : Byte)
  | ldyAbs (a : Word)
  | ldyAbsx (a : Word)
  | staZp (b : Byte)
  | staZpx (b : Byte)
  | staAbs (a : Word)
  | staAbsx (a : Word)
  | staAbsy (a : Word)
  | staIndx (b : Byte)
  | staIndy (b : Byte)
  | stxZp (b : Byte)
  | stxZpy (b : Byte)
  | stxAbs (a : Word)
  | styZp (b : Byte)
  | styZpx (b : Byte)
  | styAbs (a : Word)
  | tax
  | tay
  | txa
  | tya
  | tsx
  | txs
  -- 43_arithmetic_logic.md
  | adcImm (v : Byte)
  | adcZp (b : Byte)
  | adcZpx (b : Byte)
  | adcAbs (a : Word)
  | adcAbsx (a : Word)
  | adcAbsy (a : Word)
  | adcIndx (b : Byte)
  | adcIndy (b : Byte)
  | sbcImm (v : Byte)
  | sbcZp (b : Byte)
  | sbcZpx (b : Byte)
  | sbcAbs (a : Word)
  | sbcAbsx (a : Word)
  | sbcAbsy (a : Word)
  | sbcIndx (b : Byte)
  | sbcIndy (b : Byte)
  | andImm (v : Byte)
  | andZp (b : Byte)
  | andZpx (b : Byte)
  | andAbs (a : Word)
  | andAbsx (a : Word)
  | andAbsy (a : Word)
  | andIndx (b : Byte)
  | andIndy (b : Byte)
  | oraImm (v : Byte)
  | oraZp (b : Byte)
  | oraZpx (b : Byte)
  | oraAbs (a : Word)
  | oraAbsx (a : Word)
  | oraAbsy (a : Word)
  | oraIndx (b : Byte)
  | oraIndy (b : Byte)
  | eorImm (v : Byte)
  | eorZp (b : Byte)
  | eorZpx (b : Byte)
  | eorAbs (a : Word)
  | eorAbsx (a : Word)
  | eorAbsy (a : Word)
  | eorIndx (b : Byte)
  | eorIndy (b : Byte)
  | bitZp (b : Byte)
  | bitAbs (a : Word)
  | cmpImm (v : Byte)
  | cmpZp (b : Byte)
  | cmpZpx (b : Byte)
  | cmpAbs (a : Word)
  | cmpAbsx (a : Word)
  | cmpAbsy (a : Word)
  | cmpIndx (b : Byte)
  | cmpIndy (b : Byte)
  | cpxImm (v : Byte)
  | cpxZp (b : Byte)
  | cpxAbs (a : Word)
  | cpyImm (v : Byte)
  | cpyZp (b : Byte)
  | cpyAbs (a : Word)
  | incZp (b : Byte)
  | incZpx (b : Byte)
  | incAbs (a : Word)
  | incAbsx (a : Word)
  | decZp (b : Byte)
  | decZpx (b : Byte)
  | decAbs (a : Word)
  | decAbsx (a : Word)
  | inx
  | iny
  | dex
  | dey
  -- 44_shift_rotate.md
  | aslAcc
  | aslZp (b : Byte)
  | aslZpx (b : Byte)
  | aslAbs (a : Word)
  | aslAbsx (a : Word)
  | lsrAcc
  | lsrZp (b : Byte)
  | lsrZpx (b : Byte)
  | lsrAbs (a : Word)
  | lsrAbsx (a : Word)
  | rolAcc
  | rolZp (b : Byte)
  | rolZpx (b : Byte)
  | rolAbs (a : Word)
  | rolAbsx (a : Word)
  | rorAcc
  | rorZp (b : Byte)
  | rorZpx (b : Byte)
  | rorAbs (a : Word)
  | rorAbsx (a : Word)
  -- 45_control_flow.md
  | bcc (d : Byte)
  | bcs (d : Byte)
  | beq (d : Byte)
  | bne (d : Byte)
  | bmi (d : Byte)
  | bpl (d : Byte)
  | bvc (d : Byte)
  | bvs (d : Byte)
  | jmpAbs (a : Word)
  | jmpInd (a : Word)
  | jsr (a : Word)
  | rts
  -- 46_stack_flags_system.md
  | pha
  | php
  | pla
  | plp
  | clc
  | sec
  | cli
  | sei
  | cld
  | sed
  | clv
  | nop
  | brk
  | rti
  deriving DecidableEq, Repr

/-- What a row of the opcode table says of the bytes after the opcode: none, one byte or two (30_encoding.md R80), and
which instruction they complete. -/
inductive Form where
  /-- Format F1. -/
  | f1 (i : Instr)
  /-- Format F2: one operand byte. -/
  | f2 (make : Byte → Instr)
  /-- Format F3: a 16-bit operand, low byte first. -/
  | f3 (make : Word → Instr)

/-- A row of the opcode table: the descriptor of 30_encoding.md R82 under its opcode. Mnemonic and mode are those of
the instruction the form makes. -/
structure Row where
  opcode : Byte
  form : Form
  /-- `base_cycles` (70_reset_and_hazards.md R356). -/
  baseCycles : Nat
  /-- `page_cross_penalty` (47_fetch_decode_step.md R296). -/
  pageCrossPenalty : Bool

end Sys2Proof
end

