-- ==== Sys2Proof/WellFormed.lean ====
section
/-! DEFINITION. Which instructions a machine has. No operand value is illegal (30_encoding.md R91) and the operand's
width is in its type, so the one check is the table profile (R88): with `sourceShown` only the five rows the source
shows are instructions of the machine. -/

namespace Sys2Proof

/-- The instruction's row is one the source itself shows (30_encoding.md R85, R88): LDA with opcodes A9, A5, B5, AD,
A1. -/
def Instr.sourceShown : Instr → Bool
  | .ldaImm _ | .ldaZp _ | .ldaZpx _ | .ldaAbs _ | .ldaIndx _ => true
  | _ => false

/-- The instruction is one of the machine's under this table profile (30_encoding.md R88, R91). -/
def Instr.wellFormed : TableProfile → Instr → Bool
  | .full, _ => true
  | .sourceShown, i => i.sourceShown

end Sys2Proof
end

