-- ==== Sys2Proof/Decode.lean ====
section
/-! DEFINITION. The decoder (6502_decoder) and the encoder. The table is 30_encoding.md R86 row by row with the numbers
of 70_reset_and_hazards.md R356; the decoder looks the opcode byte up (R81, R282) and the row's form says how many
operand bytes follow (R92). The encoder is written on its own from the list by mnemonic (R87). -/

namespace Sys2Proof

/-! ## Bytes and words (00_scope.md R11) -/

/-- `lo(w)` = `w[7:0]`. -/
def lo (w : Word) : Byte := BitVec.ofNat 8 w.toNat

/-- `hi(w)` = `w[15:8]`. -/
def hi (w : Word) : Byte := BitVec.ofNat 8 (w.toNat / 256)

/-- `{h, l}` = h * 256 + l. -/
def join (h l : Byte) : Word := BitVec.ofNat 16 (h.toNat * 256 + l.toNat)

/-! ## The opcode table -/

namespace OpcodeTable

/-- Row 0x of the matrix of 30_encoding.md R86. -/
def row0x : List Row := [
  ⟨0x00, .f1 .brk, 7, false⟩,
  ⟨0x01, .f2 .oraIndx, 6, false⟩,
  ⟨0x05, .f2 .oraZp, 3, false⟩,
  ⟨0x06, .f2 .aslZp, 5, false⟩,
  ⟨0x08, .f1 .php, 3, false⟩,
  ⟨0x09, .f2 .oraImm, 2, false⟩,
  ⟨0x0A, .f1 .aslAcc, 2, false⟩,
  ⟨0x0D, .f3 .oraAbs, 4, false⟩,
  ⟨0x0E, .f3 .aslAbs, 6, false⟩]

/-- Row 1x of the matrix of 30_encoding.md R86. -/
def row1x : List Row := [
  ⟨0x10, .f2 .bpl, 2, false⟩,
  ⟨0x11, .f2 .oraIndy, 5, true⟩,
  ⟨0x15, .f2 .oraZpx, 4, false⟩,
  ⟨0x16, .f2 .aslZpx, 6, false⟩,
  ⟨0x18, .f1 .clc, 2, false⟩,
  ⟨0x19, .f3 .oraAbsy, 4, true⟩,
  ⟨0x1D, .f3 .oraAbsx, 4, true⟩,
  ⟨0x1E, .f3 .aslAbsx, 7, false⟩]

/-- Row 2x of the matrix of 30_encoding.md R86. -/
def row2x : List Row := [
  ⟨0x20, .f3 .jsr, 6, false⟩,
  ⟨0x21, .f2 .andIndx, 6, false⟩,
  ⟨0x24, .f2 .bitZp, 3, false⟩,
  ⟨0x25, .f2 .andZp, 3, false⟩,
  ⟨0x26, .f2 .rolZp, 5, false⟩,
  ⟨0x28, .f1 .plp, 4, false⟩,
  ⟨0x29, .f2 .andImm, 2, false⟩,
  ⟨0x2A, .f1 .rolAcc, 2, false⟩,
  ⟨0x2C, .f3 .bitAbs, 4, false⟩,
  ⟨0x2D, .f3 .andAbs, 4, false⟩,
  ⟨0x2E, .f3 .rolAbs, 6, false⟩]

/-- Row 3x of the matrix of 30_encoding.md R86. -/
def row3x : List Row := [
  ⟨0x30, .f2 .bmi, 2, false⟩,
  ⟨0x31, .f2 .andIndy, 5, true⟩,
  ⟨0x35, .f2 .andZpx, 4, false⟩,
  ⟨0x36, .f2 .rolZpx, 6, false⟩,
  ⟨0x38, .f1 .sec, 2, false⟩,
  ⟨0x39, .f3 .andAbsy, 4, true⟩,
  ⟨0x3D, .f3 .andAbsx, 4, true⟩,
  ⟨0x3E, .f3 .rolAbsx, 7, false⟩]

/-- Row 4x of the matrix of 30_encoding.md R86. -/
def row4x : List Row := [
  ⟨0x40, .f1 .rti, 6, false⟩,
  ⟨0x41, .f2 .eorIndx, 6, false⟩,
  ⟨0x45, .f2 .eorZp, 3, false⟩,
  ⟨0x46, .f2 .lsrZp, 5, false⟩,
  ⟨0x48, .f1 .pha, 3, false⟩,
  ⟨0x49, .f2 .eorImm, 2, false⟩,
  ⟨0x4A, .f1 .lsrAcc, 2, false⟩,
  ⟨0x4C, .f3 .jmpAbs, 3, false⟩,
  ⟨0x4D, .f3 .eorAbs, 4, false⟩,
  ⟨0x4E, .f3 .lsrAbs, 6, false⟩]

/-- Row 5x of the matrix of 30_encoding.md R86. -/
def row5x : List Row := [
  ⟨0x50, .f2 .bvc, 2, false⟩,
  ⟨0x51, .f2 .eorIndy, 5, true⟩,
  ⟨0x55, .f2 .eorZpx, 4, false⟩,
  ⟨0x56, .f2 .lsrZpx, 6, false⟩,
  ⟨0x58, .f1 .cli, 2, false⟩,
  ⟨0x59, .f3 .eorAbsy, 4, true⟩,
  ⟨0x5D, .f3 .eorAbsx, 4, true⟩,
  ⟨0x5E, .f3 .lsrAbsx, 7, false⟩]

/-- Row 6x of the matrix of 30_encoding.md R86. -/
def row6x : List Row := [
  ⟨0x60, .f1 .rts, 6, false⟩,
  ⟨0x61, .f2 .adcIndx, 6, false⟩,
  ⟨0x65, .f2 .adcZp, 3, false⟩,
  ⟨0x66, .f2 .rorZp, 5, false⟩,
  ⟨0x68, .f1 .pla, 4, false⟩,
  ⟨0x69, .f2 .adcImm, 2, false⟩,
  ⟨0x6A, .f1 .rorAcc, 2, false⟩,
  ⟨0x6C, .f3 .jmpInd, 5, false⟩,
  ⟨0x6D, .f3 .adcAbs, 4, false⟩,
  ⟨0x6E, .f3 .rorAbs, 6, false⟩]

/-- Row 7x of the matrix of 30_encoding.md R86. -/
def row7x : List Row := [
  ⟨0x70, .f2 .bvs, 2, false⟩,
  ⟨0x71, .f2 .adcIndy, 5, true⟩,
  ⟨0x75, .f2 .adcZpx, 4, false⟩,
  ⟨0x76, .f2 .rorZpx, 6, false⟩,
  ⟨0x78, .f1 .sei, 2, false⟩,
  ⟨0x79, .f3 .adcAbsy, 4, true⟩,
  ⟨0x7D, .f3 .adcAbsx, 4, true⟩,
  ⟨0x7E, .f3 .rorAbsx, 7, false⟩]

/-- Row 8x of the matrix of 30_encoding.md R86. -/
def row8x : List Row := [
  ⟨0x81, .f2 .staIndx, 6, false⟩,
  ⟨0x84, .f2 .styZp, 3, false⟩,
  ⟨0x85, .f2 .staZp, 3, false⟩,
  ⟨0x86, .f2 .stxZp, 3, false⟩,
  ⟨0x88, .f1 .dey, 2, false⟩,
  ⟨0x8A, .f1 .txa, 2, false⟩,
  ⟨0x8C, .f3 .styAbs, 4, false⟩,
  ⟨0x8D, .f3 .staAbs, 4, false⟩,
  ⟨0x8E, .f3 .stxAbs, 4, false⟩]

/-- Row 9x of the matrix of 30_encoding.md R86. -/
def row9x : List Row := [
  ⟨0x90, .f2 .bcc, 2, false⟩,
  ⟨0x91, .f2 .staIndy, 6, false⟩,
  ⟨0x94, .f2 .styZpx, 4, false⟩,
  ⟨0x95, .f2 .staZpx, 4, false⟩,
  ⟨0x96, .f2 .stxZpy, 4, false⟩,
  ⟨0x98, .f1 .tya, 2, false⟩,
  ⟨0x99, .f3 .staAbsy, 5, false⟩,
  ⟨0x9A, .f1 .txs, 2, false⟩,
  ⟨0x9D, .f3 .staAbsx, 5, false⟩]

/-- Row Ax of the matrix of 30_encoding.md R86. -/
def rowAx : List Row := [
  ⟨0xA0, .f2 .ldyImm, 2, false⟩,
  ⟨0xA1, .f2 .ldaIndx, 6, false⟩,
  ⟨0xA2, .f2 .ldxImm, 2, false⟩,
  ⟨0xA4, .f2 .ldyZp, 3, false⟩,
  ⟨0xA5, .f2 .ldaZp, 3, false⟩,
  ⟨0xA6, .f2 .ldxZp, 3, false⟩,
  ⟨0xA8, .f1 .tay, 2, false⟩,
  ⟨0xA9, .f2 .ldaImm, 2, false⟩,
  ⟨0xAA, .f1 .tax, 2, false⟩,
  ⟨0xAC, .f3 .ldyAbs, 4, false⟩,
  ⟨0xAD, .f3 .ldaAbs, 4, false⟩,
  ⟨0xAE, .f3 .ldxAbs, 4, false⟩]

/-- Row Bx of the matrix of 30_encoding.md R86. -/
def rowBx : List Row := [
  ⟨0xB0, .f2 .bcs, 2, false⟩,
  ⟨0xB1, .f2 .ldaIndy, 5, true⟩,
  ⟨0xB4, .f2 .ldyZpx, 4, false⟩,
  ⟨0xB5, .f2 .ldaZpx, 4, false⟩,
  ⟨0xB6, .f2 .ldxZpy, 4, false⟩,
  ⟨0xB8, .f1 .clv, 2, false⟩,
  ⟨0xB9, .f3 .ldaAbsy, 4, true⟩,
  ⟨0xBA, .f1 .tsx, 2, false⟩,
  ⟨0xBC, .f3 .ldyAbsx, 4, true⟩,
  ⟨0xBD, .f3 .ldaAbsx, 4, true⟩,
  ⟨0xBE, .f3 .ldxAbsy, 4, true⟩]

/-- Row Cx of the matrix of 30_encoding.md R86. -/
def rowCx : List Row := [
  ⟨0xC0, .f2 .cpyImm, 2, false⟩,
  ⟨0xC1, .f2 .cmpIndx, 6, false⟩,
  ⟨0xC4, .f2 .cpyZp, 3, false⟩,
  ⟨0xC5, .f2 .cmpZp, 3, false⟩,
  ⟨0xC6, .f2 .decZp, 5, false⟩,
  ⟨0xC8, .f1 .iny, 2, false⟩,
  ⟨0xC9, .f2 .cmpImm, 2, false⟩,
  ⟨0xCA, .f1 .dex, 2, false⟩,
  ⟨0xCC, .f3 .cpyAbs, 4, false⟩,
  ⟨0xCD, .f3 .cmpAbs, 4, false⟩,
  ⟨0xCE, .f3 .decAbs, 6, false⟩]

/-- Row Dx of the matrix of 30_encoding.md R86. -/
def rowDx : List Row := [
  ⟨0xD0, .f2 .bne, 2, false⟩,
  ⟨0xD1, .f2 .cmpIndy, 5, true⟩,
  ⟨0xD5, .f2 .cmpZpx, 4, false⟩,
  ⟨0xD6, .f2 .decZpx, 6, false⟩,
  ⟨0xD8, .f1 .cld, 2, false⟩,
  ⟨0xD9, .f3 .cmpAbsy, 4, true⟩,
  ⟨0xDD, .f3 .cmpAbsx, 4, true⟩,
  ⟨0xDE, .f3 .decAbsx, 7, false⟩]

/-- Row Ex of the matrix of 30_encoding.md R86. -/
def rowEx : List Row := [
  ⟨0xE0, .f2 .cpxImm, 2, false⟩,
  ⟨0xE1, .f2 .sbcIndx, 6, false⟩,
  ⟨0xE4, .f2 .cpxZp, 3, false⟩,
  ⟨0xE5, .f2 .sbcZp, 3, false⟩,
  ⟨0xE6, .f2 .incZp, 5, false⟩,
  ⟨0xE8, .f1 .inx, 2, false⟩,
  ⟨0xE9, .f2 .sbcImm, 2, false⟩,
  ⟨0xEA, .f1 .nop, 2, false⟩,
  ⟨0xEC, .f3 .cpxAbs, 4, false⟩,
  ⟨0xED, .f3 .sbcAbs, 4, false⟩,
  ⟨0xEE, .f3 .incAbs, 6, false⟩]

/-- Row Fx of the matrix of 30_encoding.md R86. -/
def rowFx : List Row := [
  ⟨0xF0, .f2 .beq, 2, false⟩,
  ⟨0xF1, .f2 .sbcIndy, 5, true⟩,
  ⟨0xF5, .f2 .sbcZpx, 4, false⟩,
  ⟨0xF6, .f2 .incZpx, 6, false⟩,
  ⟨0xF8, .f1 .sed, 2, false⟩,
  ⟨0xF9, .f3 .sbcAbsy, 4, true⟩,
  ⟨0xFD, .f3 .sbcAbsx, 4, true⟩,
  ⟨0xFE, .f3 .incAbsx, 7, false⟩]

/-- The whole table: 151 rows (30_encoding.md R86, R87). -/
def rows : List Row :=
  row0x ++ row1x ++ row2x ++ row3x ++ row4x ++ row5x ++ row6x ++ row7x ++
  row8x ++ row9x ++ rowAx ++ rowBx ++ rowCx ++ rowDx ++ rowEx ++ rowFx

end OpcodeTable

/-- The row an opcode byte has with every row mapped; `none` for an unmapped byte (30_encoding.md R90). -/
def findRow (op : Byte) : Option Row := OpcodeTable.rows.find? (fun r => r.opcode == op)

/-- The instruction a row makes of two operand bytes; a row with fewer operand bytes ignores the rest. -/
def Form.fill (l h : Byte) : Form → Instr
  | .f1 i => i
  | .f2 make => make l
  | .f3 make => make (join h l)

/-- The five opcodes the source shows (30_encoding.md R85). -/
def shownOpcodes : List Byte := [0xA1, 0xA5, 0xA9, 0xAD, 0xB5]

/-- The decoder's table under a profile (30_encoding.md R88). -/
def lookup : TableProfile → Byte → Option Row
  | .full, op => findRow op
  | .sourceShown, op => if op ∈ shownOpcodes then findRow op else none

/-! ## Decoding -/

/-- What the decoder answers on a list of bytes. -/
inductive Decoded where
  /-- An instruction and the bytes after it. -/
  | instr (i : Instr) (rest : List Byte)
  /-- The opcode byte has no entry in the table (30_encoding.md R90). -/
  | unmapped (op : Byte)
  /-- The list ends before the instruction does. Memory never does: the address space wraps (R80). -/
  | truncated
  deriving DecidableEq, Repr

/-- Takes the operand bytes a form needs, low byte first (30_encoding.md R80, R83). -/
def Form.take : Form → List Byte → Decoded
  | .f1 i, rest => .instr i rest
  | .f2 make, b :: rest => .instr (make b) rest
  | .f2 _, [] => .truncated
  | .f3 make, l :: h :: rest => .instr (make (join h l)) rest
  | .f3 _, _ => .truncated

/-- The decoder: total on every list of bytes (47_fetch_decode_step.md R282), rejecting by name. -/
def decode (profile : TableProfile) : List Byte → Decoded
  | [] => .truncated
  | op :: rest =>
    match lookup profile op with
    | none => .unmapped op
    | some r => r.form.take rest

/-- The instruction decoded, if it is one. -/
def Decoded.instr? : Decoded → Option Instr
  | .instr i _ => some i
  | .unmapped _ => none
  | .truncated => none

/-- The decoder on a row of spec/opcode_table.json: bit 0 of `w` is the least significant bit of the opcode byte, the
second byte is bits 15..8 and the third bits 23..16; bits above `nbits` are 0. -/
def decodeTableWord (nbits w : Nat) : Option Instr :=
  let v := w % 2 ^ nbits
  (decode .full [BitVec.ofNat 8 v, BitVec.ofNat 8 (v / 256), BitVec.ofNat 8 (v / 65536)]).instr?

/-! ## Views of an instruction -/

/-- The mnemonic (30_encoding.md R82, R87). -/
def Instr.mnemonic : Instr → Mnemonic
  | .ldaImm _ | .ldaZp _ | .ldaZpx _ | .ldaAbs _ | .ldaAbsx _ | .ldaAbsy _ | .ldaIndx _ | .ldaIndy _ => .LDA
  | .ldxImm _ | .ldxZp _ | .ldxZpy _ | .ldxAbs _ | .ldxAbsy _ => .LDX
  | .ldyImm _ | .ldyZp _ | .ldyZpx _ | .ldyAbs _ | .ldyAbsx _ => .LDY
  | .staZp _ | .staZpx _ | .staAbs _ | .staAbsx _ | .staAbsy _ | .staIndx _ | .staIndy _ => .STA
  | .stxZp _ | .stxZpy _ | .stxAbs _ => .STX
  | .styZp _ | .styZpx _ | .styAbs _ => .STY
  | .tax => .TAX
  | .tay => .TAY
  | .txa => .TXA
  | .tya => .TYA
  | .tsx => .TSX
  | .txs => .TXS
  | .adcImm _ | .adcZp _ | .adcZpx _ | .adcAbs _ | .adcAbsx _ | .adcAbsy _ | .adcIndx _ | .adcIndy _ => .ADC
  | .sbcImm _ | .sbcZp _ | .sbcZpx _ | .sbcAbs _ | .sbcAbsx _ | .sbcAbsy _ | .sbcIndx _ | .sbcIndy _ => .SBC
  | .andImm _ | .andZp _ | .andZpx _ | .andAbs _ | .andAbsx _ | .andAbsy _ | .andIndx _ | .andIndy _ => .AND
  | .oraImm _ | .oraZp _ | .oraZpx _ | .oraAbs _ | .oraAbsx _ | .oraAbsy _ | .oraIndx _ | .oraIndy _ => .ORA
  | .eorImm _ | .eorZp _ | .eorZpx _ | .eorAbs _ | .eorAbsx _ | .eorAbsy _ | .eorIndx _ | .eorIndy _ => .EOR
  | .bitZp _ | .bitAbs _ => .BIT
  | .cmpImm _ | .cmpZp _ | .cmpZpx _ | .cmpAbs _ | .cmpAbsx _ | .cmpAbsy _ | .cmpIndx _ | .cmpIndy _ => .CMP
  | .cpxImm _ | .cpxZp _ | .cpxAbs _ => .CPX
  | .cpyImm _ | .cpyZp _ | .cpyAbs _ => .CPY
  | .incZp _ | .incZpx _ | .incAbs _ | .incAbsx _ => .INC
  | .decZp _ | .decZpx _ | .decAbs _ | .decAbsx _ => .DEC
  | .inx => .INX
  | .iny => .INY
  | .dex => .DEX
  | .dey => .DEY
  | .aslAcc | .aslZp _ | .aslZpx _ | .aslAbs _ | .aslAbsx _ => .ASL
  | .lsrAcc | .lsrZp _ | .lsrZpx _ | .lsrAbs _ | .lsrAbsx _ => .LSR
  | .rolAcc | .rolZp _ | .rolZpx _ | .rolAbs _ | .rolAbsx _ => .ROL
  | .rorAcc | .rorZp _ | .rorZpx _ | .rorAbs _ | .rorAbsx _ => .ROR
  | .bcc _ => .BCC
  | .bcs _ => .BCS
  | .beq _ => .BEQ
  | .bne _ => .BNE
  | .bmi _ => .BMI
  | .bpl _ => .BPL
  | .bvc _ => .BVC
  | .bvs _ => .BVS
  | .jmpAbs _ | .jmpInd _ => .JMP
  | .jsr _ => .JSR
  | .rts => .RTS
  | .pha => .PHA
  | .php => .PHP
  | .pla => .PLA
  | .plp => .PLP
  | .clc => .CLC
  | .sec => .SEC
  | .cli => .CLI
  | .sei => .SEI
  | .cld => .CLD
  | .sed => .SED
  | .clv => .CLV
  | .nop => .NOP
  | .brk => .BRK
  | .rti => .RTI

/-- The addressing mode with its operand bytes (30_encoding.md R83, R84, R87). -/
def Instr.operand : Instr → Operand
  | .tax | .tay | .txa | .tya | .tsx | .txs | .inx | .iny | .dex | .dey | .rts | .pha | .php | .pla | .plp |
    .clc | .sec | .cli | .sei | .cld | .sed | .clv | .nop | .brk | .rti => .imp
  | .aslAcc | .lsrAcc | .rolAcc | .rorAcc => .acc
  | .ldaImm v | .ldxImm v | .ldyImm v | .adcImm v | .sbcImm v | .andImm v | .oraImm v | .eorImm v | .cmpImm v |
    .cpxImm v | .cpyImm v => .imm v
  | .ldaZp b | .ldxZp b | .ldyZp b | .staZp b | .stxZp b | .styZp b | .adcZp b | .sbcZp b | .andZp b |
    .oraZp b | .eorZp b | .bitZp b | .cmpZp b | .cpxZp b | .cpyZp b | .incZp b | .decZp b | .aslZp b |
    .lsrZp b | .rolZp b | .rorZp b => .zp b
  | .ldaZpx b | .ldyZpx b | .staZpx b | .styZpx b | .adcZpx b | .sbcZpx b | .andZpx b | .oraZpx b | .eorZpx b |
    .cmpZpx b | .incZpx b | .decZpx b | .aslZpx b | .lsrZpx b | .rolZpx b | .rorZpx b => .zpx b
  | .ldxZpy b | .stxZpy b => .zpy b
  | .ldaAbs a | .ldxAbs a | .ldyAbs a | .staAbs a | .stxAbs a | .styAbs a | .adcAbs a | .sbcAbs a | .andAbs a |
    .oraAbs a | .eorAbs a | .bitAbs a | .cmpAbs a | .cpxAbs a | .cpyAbs a | .incAbs a | .decAbs a | .aslAbs a |
    .lsrAbs a | .rolAbs a | .rorAbs a | .jmpAbs a | .jsr a => .abs a
  | .ldaAbsx a | .ldyAbsx a | .staAbsx a | .adcAbsx a | .sbcAbsx a | .andAbsx a | .oraAbsx a | .eorAbsx a |
    .cmpAbsx a | .incAbsx a | .decAbsx a | .aslAbsx a | .lsrAbsx a | .rolAbsx a | .rorAbsx a => .absx a
  | .ldaAbsy a | .ldxAbsy a | .staAbsy a | .adcAbsy a | .sbcAbsy a | .andAbsy a | .oraAbsy a | .eorAbsy a |
    .cmpAbsy a => .absy a
  | .jmpInd a => .ind a
  | .ldaIndx b | .staIndx b | .adcIndx b | .sbcIndx b | .andIndx b | .oraIndx b | .eorIndx b | .cmpIndx b => .indx b
  | .ldaIndy b | .staIndy b | .adcIndy b | .sbcIndy b | .andIndy b | .oraIndy b | .eorIndy b | .cmpIndy b => .indy b
  | .bcc d | .bcs d | .beq d | .bne d | .bmi d | .bpl d | .bvc d | .bvs d => .rel d

/-- The mode tag of an operand (30_encoding.md R84). -/
def Operand.mode : Operand → Mode
  | .imp => .imp
  | .acc => .acc
  | .imm _ => .imm
  | .zp _ => .zp
  | .zpx _ => .zpx
  | .zpy _ => .zpy
  | .abs _ => .abs
  | .absx _ => .absx
  | .absy _ => .absy
  | .ind _ => .ind
  | .indx _ => .indx
  | .indy _ => .indy
  | .rel _ => .rel

/-- The operand bytes in memory order, a 16-bit operand low byte first (30_encoding.md R80, R83). -/
def Operand.bytes : Operand → List Byte
  | .imp | .acc => []
  | .imm v | .zp v | .zpx v | .zpy v | .indx v | .indy v | .rel v => [v]
  | .abs a | .absx a | .absy a | .ind a => [lo a, hi a]

/-- The addressing mode of an instruction. -/
def Instr.mode (i : Instr) : Mode := i.operand.mode

/-! ## Encoding -/

/-- The opcode byte (30_encoding.md R87). -/
def Instr.opcode : Instr → Byte
  | .ldaImm _ => 0xA9
  | .ldaZp _ => 0xA5
  | .ldaZpx _ => 0xB5
  | .ldaAbs _ => 0xAD
  | .ldaAbsx _ => 0xBD
  | .ldaAbsy _ => 0xB9
  | .ldaIndx _ => 0xA1
  | .ldaIndy _ => 0xB1
  | .ldxImm _ => 0xA2
  | .ldxZp _ => 0xA6
  | .ldxZpy _ => 0xB6
  | .ldxAbs _ => 0xAE
  | .ldxAbsy _ => 0xBE
  | .ldyImm _ => 0xA0
  | .ldyZp _ => 0xA4
  | .ldyZpx _ => 0xB4
  | .ldyAbs _ => 0xAC
  | .ldyAbsx _ => 0xBC
  | .staZp _ => 0x85
  | .staZpx _ => 0x95
  | .staAbs _ => 0x8D
  | .staAbsx _ => 0x9D
  | .staAbsy _ => 0x99
  | .staIndx _ => 0x81
  | .staIndy _ => 0x91
  | .stxZp _ => 0x86
  | .stxZpy _ => 0x96
  | .stxAbs _ => 0x8E
  | .styZp _ => 0x84
  | .styZpx _ => 0x94
  | .styAbs _ => 0x8C
  | .tax => 0xAA
  | .tay => 0xA8
  | .txa => 0x8A
  | .tya => 0x98
  | .tsx => 0xBA
  | .txs => 0x9A
  | .adcImm _ => 0x69
  | .adcZp _ => 0x65
  | .adcZpx _ => 0x75
  | .adcAbs _ => 0x6D
  | .adcAbsx _ => 0x7D
  | .adcAbsy _ => 0x79
  | .adcIndx _ => 0x61
  | .adcIndy _ => 0x71
  | .sbcImm _ => 0xE9
  | .sbcZp _ => 0xE5
  | .sbcZpx _ => 0xF5
  | .sbcAbs _ => 0xED
  | .sbcAbsx _ => 0xFD
  | .sbcAbsy _ => 0xF9
  | .sbcIndx _ => 0xE1
  | .sbcIndy _ => 0xF1
  | .andImm _ => 0x29
  | .andZp _ => 0x25
  | .andZpx _ => 0x35
  | .andAbs _ => 0x2D
  | .andAbsx _ => 0x3D
  | .andAbsy _ => 0x39
  | .andIndx _ => 0x21
  | .andIndy _ => 0x31
  | .oraImm _ => 0x09
  | .oraZp _ => 0x05
  | .oraZpx _ => 0x15
  | .oraAbs _ => 0x0D
  | .oraAbsx _ => 0x1D
  | .oraAbsy _ => 0x19
  | .oraIndx _ => 0x01
  | .oraIndy _ => 0x11
  | .eorImm _ => 0x49
  | .eorZp _ => 0x45
  | .eorZpx _ => 0x55
  | .eorAbs _ => 0x4D
  | .eorAbsx _ => 0x5D
  | .eorAbsy _ => 0x59
  | .eorIndx _ => 0x41
  | .eorIndy _ => 0x51
  | .bitZp _ => 0x24
  | .bitAbs _ => 0x2C
  | .cmpImm _ => 0xC9
  | .cmpZp _ => 0xC5
  | .cmpZpx _ => 0xD5
  | .cmpAbs _ => 0xCD
  | .cmpAbsx _ => 0xDD
  | .cmpAbsy _ => 0xD9
  | .cmpIndx _ => 0xC1
  | .cmpIndy _ => 0xD1
  | .cpxImm _ => 0xE0
  | .cpxZp _ => 0xE4
  | .cpxAbs _ => 0xEC
  | .cpyImm _ => 0xC0
  | .cpyZp _ => 0xC4
  | .cpyAbs _ => 0xCC
  | .incZp _ => 0xE6
  | .incZpx _ => 0xF6
  | .incAbs _ => 0xEE
  | .incAbsx _ => 0xFE
  | .decZp _ => 0xC6
  | .decZpx _ => 0xD6
  | .decAbs _ => 0xCE
  | .decAbsx _ => 0xDE
  | .inx => 0xE8
  | .iny => 0xC8
  | .dex => 0xCA
  | .dey => 0x88
  | .aslAcc => 0x0A
  | .aslZp _ => 0x06
  | .aslZpx _ => 0x16
  | .aslAbs _ => 0x0E
  | .aslAbsx _ => 0x1E
  | .lsrAcc => 0x4A
  | .lsrZp _ => 0x46
  | .lsrZpx _ => 0x56
  | .lsrAbs _ => 0x4E
  | .lsrAbsx _ => 0x5E
  | .rolAcc => 0x2A
  | .rolZp _ => 0x26
  | .rolZpx _ => 0x36
  | .rolAbs _ => 0x2E
  | .rolAbsx _ => 0x3E
  | .rorAcc => 0x6A
  | .rorZp _ => 0x66
  | .rorZpx _ => 0x76
  | .rorAbs _ => 0x6E
  | .rorAbsx _ => 0x7E
  | .bcc _ => 0x90
  | .bcs _ => 0xB0
  | .beq _ => 0xF0
  | .bne _ => 0xD0
  | .bmi _ => 0x30
  | .bpl _ => 0x10
  | .bvc _ => 0x50
  | .bvs _ => 0x70
  | .jmpAbs _ => 0x4C
  | .jmpInd _ => 0x6C
  | .jsr _ => 0x20
  | .rts => 0x60
  | .pha => 0x48
  | .php => 0x08
  | .pla => 0x68
  | .plp => 0x28
  | .clc => 0x18
  | .sec => 0x38
  | .cli => 0x58
  | .sei => 0x78
  | .cld => 0xD8
  | .sed => 0xF8
  | .clv => 0xB8
  | .nop => 0xEA
  | .brk => 0x00
  | .rti => 0x40

/-- The bytes of an instruction: the opcode, then its operand bytes (30_encoding.md R80). -/
def encode (i : Instr) : List Byte := i.opcode :: i.operand.bytes

end Sys2Proof
end

