-- ==== Sys2Proof/Machine/State.lean ====
section
/-! DEFINITION. The state of the machine (10_state.md), the reasons a step can stop, the state after construction, and
the working copy a step keeps (47_fetch_decode_step.md R293). All of it is plain data. -/

namespace Sys2Proof.Machine

/-- The eight flags of P (10_state.md R28). -/
inductive Flag where
  | C | Z | I | D | B | U | V | N
  deriving DecidableEq, Repr

/-- The 64 KB byte array (10_state.md R38) as the list of its bytes that are not 0x00: addresses strictly rising, no
zero byte (`Memory.wf`). An address that is not listed reads 0x00 (20_memory.md R51). -/
abbrev Memory := List Host.Cell

/-- The state (10_state.md R20, R38). -/
structure State where
  /-- The accumulator (R21). -/
  a : Byte
  /-- Index register X (R22). -/
  x : Byte
  /-- Index register Y (R22). -/
  y : Byte
  /-- The stack pointer, an offset into the stack page (R23). -/
  sp : Byte
  /-- The program counter (R24). -/
  pc : Word
  /-- The status byte (R28). -/
  p : Byte
  /-- The current opcode latch, trace only (R34). -/
  opcode : Byte
  /-- The data latch: the last byte moved on the bus, trace only (R34, R35). -/
  dataBus : Byte
  /-- The address latch: the last effective address computed, trace only (R34, R35). -/
  addrBus : Word
  /-- Memory (R38). -/
  mem : Memory
  /-- The parameters of this machine (00_scope.md R6): not state of the spec, and changed by no step (log entry 1). -/
  cfg : Config
  deriving DecidableEq, Repr

/-- How a step can end in a fault (60_exceptions.md R310). A fault carries no state: a faulted step changes nothing
(R313). Both are the spec's own outcomes, so stopping there is safe. -/
inductive Fault where
  /-- Raised by the decoder of `step` for an opcode byte without a table entry (R311). `pc` is the address of the byte.
  Code 1. -/
  | decodeError (pc : Word) (opcode : Byte)
  /-- Raised by the commit of a step one of whose accesses hits an address of `BUS_REJECTS` (R312). `pc` is the PC on
  entry to the step, `addr` the first rejected address. With the empty set of this hardware it is unreachable. Code 2. -/
  | addressingError (pc : Word) (addr : Word)
  deriving DecidableEq, Repr

/-- Where the model gives no meaning. Both are safe: nothing is claimed of what the hardware does there. -/
inductive Refusal where
  /-- For an arm of `exec` whose instruction has no meaning in the model. No arm raises it. -/
  | notModelled (mnemonic : String)
  /-- Raised by ADC and SBC with D = 1 when the machine's parameter `DECIMAL_MODE` is `refuse` (43_arithmetic_logic.md
  R181, 93_implementation_defined.md U3). Never with the default `binaryOnly`. -/
  | decimalMode
  deriving DecidableEq, Repr

/-- What a step answers. -/
abbrev Result := Host.Outcome State Fault Refusal

/-- The state after construction and after `reset` of a machine whose memory was never written (10_state.md R38, R39;
70_reset_and_hazards.md R340, R343), with the default parameters of 00_scope.md R6. -/
def State.reset : State :=
  { a := 0x00, x := 0x00, y := 0x00, sp := 0x00, pc := 0x0000, p := 0x20, opcode := 0x00, dataBus := 0x00
    addrBus := 0x0000, mem := [], cfg := Config.standard }

/-- One access to the bus with the byte it moved (20_memory.md R50, R57). -/
inductive Access where
  | read (addr : Word) (v : Byte)
  | write (addr : Word) (v : Byte)
  deriving DecidableEq, Repr

/-- The working copy of a step between fetch and commit (47_fetch_decode_step.md R286, R293): the registers and memory
as written so far, the accesses made so far, oldest first, the outputs of the resolver (41_address_resolver.md R130)
and what the handler reports (R285, R296). It is no part of `State`. -/
structure Work where
  st : State
  log : List Access
  /-- The mode tag of the instruction (41_address_resolver.md R147). -/
  mode : Mode
  /-- The effective address, none for Implied, Accumulator and Immediate. -/
  ea : Option Word
  /-- The operand byte the resolver delivers, in Immediate only. -/
  operand : Option Byte
  /-- The address the page test compares with. -/
  base : Option Word
  /-- The page-crossing signal (41_address_resolver.md R146). -/
  pageCross : Bool
  /-- The handler's extra cycles. -/
  extra : Nat
  /-- Set by a handler that has no meaning in this configuration. -/
  refusal : Option Refusal
  deriving DecidableEq, Repr

end Sys2Proof.Machine
end

