-- ==== Sys2Proof/Machine/Flags.lean ====
section
/-! DEFINITION. The flag updater, unit 6502_flag_update (40_flag_update_and_alu.md R100 to R103): the only way P is
written outside reset (R102). -/

namespace Sys2Proof.Machine

/-- The bit position of a flag, `b(F)` (10_state.md R28). -/
def Flag.bit : Flag → Nat
  | .C => 0
  | .Z => 1
  | .I => 2
  | .D => 3
  | .B => 4
  | .U => 5
  | .V => 6
  | .N => 7

/-- Reads one flag of a status byte (00_scope.md R12). -/
def getFlag (f : Flag) (p : Byte) : Bool := p.getLsbD f.bit

/-- `1 << b(F)`. -/
def Flag.mask (f : Flag) : Byte := 1#8 <<< f.bit

/-- `setFlag(F, cond)` on a status byte: sets the named bit when `cond` is true and clears it otherwise (R100). The
Unused bit is left alone whatever `cond` is (R101). -/
def setFlag (f : Flag) (cond : Bool) (p : Byte) : Byte :=
  match f with
  | .U => p
  | f => if cond then p ||| f.mask else p &&& ~~~f.mask

/-- `SetNZ(r)`: Z says r is 0x00, N is bit 7 of r (R103). -/
def setNZ (r : Byte) (p : Byte) : Byte := setFlag .N (r.getLsbD 7) (setFlag .Z (r == 0#8) p)

/-- The six `setFlag` calls by which PLP and RTI take their flags from a pulled byte; bits 4 and 5 of it are ignored
(46_stack_flags_system.md R253, R263). -/
def setPulledFlags (v : Byte) (p : Byte) : Byte :=
  let p := setFlag .C (v.getLsbD 0) p
  let p := setFlag .Z (v.getLsbD 1) p
  let p := setFlag .I (v.getLsbD 2) p
  let p := setFlag .D (v.getLsbD 3) p
  let p := setFlag .V (v.getLsbD 6) p
  setFlag .N (v.getLsbD 7) p

/-- The copy of P that PHP and BRK push: bits 4 and 5 forced to 1 (46_stack_flags_system.md R251, R262). -/
def pushedStatus (p : Byte) : Byte := p ||| 0x30

end Sys2Proof.Machine
end

