-- ==== Sys2Proof/Machine/Ops.lean ====
section
/-! DEFINITION. The named operations over memory and registers: the memory array (20_memory.md), the accesses of a step,
the stack (10_state.md), taking the software trap and returning from it (60_exceptions.md R319, R320), and how a step
begins and commits (47_fetch_decode_step.md R286, R293). -/

namespace Sys2Proof.Machine

/-! ## The memory array -/

/-- The byte stored at an address; an address that is not listed holds 0x00 (20_memory.md R51). -/
def Memory.read : Memory → Nat → Byte
  | [], _ => 0#8
  | (k, v) :: rest, a => if k = a then v else Memory.read rest a

/-- Makes `v` the byte stored at an address and changes no other (20_memory.md R52), keeping the canonical form. -/
def Memory.write : Memory → Nat → Byte → Memory
  | [], a, v => if v = 0#8 then [] else [(a, v)]
  | (k, x) :: rest, a, v =>
    if a < k then (if v = 0#8 then (k, x) :: rest else (a, v) :: (k, x) :: rest)
    else if a = k then (if v = 0#8 then rest else (a, v) :: rest)
    else (k, x) :: Memory.write rest a v

/-- The canonical form: addresses strictly rising and below 65536, no listed byte equal to what an unlisted address
reads as. -/
abbrev Memory.wf (m : Memory) : Prop :=
  m.Pairwise (fun c d => c.1 < d.1) ∧ ∀ c ∈ m, c.1 < 65536 ∧ c.2 ≠ 0#8

/-- The byte of memory at a 16-bit address. -/
def State.byteAt (s : State) (addr : Word) : Byte := Memory.read s.mem addr.toNat

/-- The bus rejects this address (`BUS_REJECTS`, 20_memory.md R53). -/
def rejects (c : Config) (addr : Word) : Bool :=
  c.busRejects.any (fun r => decide (r.first.toNat ≤ addr.toNat) && decide (addr.toNat ≤ r.last.toNat))

/-! ## Widening a byte (00_scope.md R12) -/

/-- `zext_16(b)`. -/
def zext16 (b : Byte) : Word := BitVec.ofNat 16 b.toNat

/-- `sext_16(b)`: `b[7] == 1 ? 0xFF00 | b : b`. -/
def sext16 (b : Byte) : Word := if b.getLsbD 7 then 0xFF00 ||| zext16 b else zext16 b

/-! ## Single fields -/

def State.setA (v : Byte) (s : State) : State := { s with a := v }
def State.setX (v : Byte) (s : State) : State := { s with x := v }
def State.setY (v : Byte) (s : State) : State := { s with y := v }
def State.setSP (v : Byte) (s : State) : State := { s with sp := v }
def State.setPC (v : Word) (s : State) : State := { s with pc := v }
def State.setP (v : Byte) (s : State) : State := { s with p := v }
def State.setOpcode (v : Byte) (s : State) : State := { s with opcode := v }
def State.setDataBus (v : Byte) (s : State) : State := { s with dataBus := v }
def State.setAddrBus (v : Word) (s : State) : State := { s with addrBus := v }
def State.setMem (m : Memory) (s : State) : State := { s with mem := m }

/-- A byte stored at a 16-bit address. -/
def State.store (addr : Word) (v : Byte) (s : State) : State := s.setMem (Memory.write s.mem addr.toNat v)

/-- One flag of P. -/
def State.flag (s : State) (f : Flag) : Bool := getFlag f s.p

/-! ## The working copy -/

/-- Changes the registers and memory of a working copy. -/
def Work.upd (f : State → State) (w : Work) : Work := { w with st := f w.st }

/-- `setFlag(F, cond)` (40_flag_update_and_alu.md R100). -/
def Work.setFlag (f : Flag) (cond : Bool) (w : Work) : Work := w.upd (fun s => s.setP (Machine.setFlag f cond s.p))

/-- `SetNZ(r)` (40_flag_update_and_alu.md R103). -/
def Work.setNZ (r : Byte) (w : Work) : Work := w.upd (fun s => s.setP (Machine.setNZ r s.p))

/-- `MemRead(addr)` (20_memory.md R51): the byte read, and the working copy with the access recorded and the byte on
the data latch (10_state.md R35). -/
def Work.read (addr : Word) (w : Work) : Byte × Work :=
  let v := w.st.byteAt addr
  (v, { w with st := w.st.setDataBus v, log := w.log ++ [.read addr v] })

/-- `MemWrite(addr, v)` (20_memory.md R52). -/
def Work.write (addr : Word) (v : Byte) (w : Work) : Work :=
  { w with st := (w.st.store addr v).setDataBus v, log := w.log ++ [.write addr v] }

/-- `MemRead16(addr)`: low byte at addr, high byte at addr + 1 modulo 65536, low first (00_scope.md R12). -/
def Work.read16 (addr : Word) (w : Work) : Word × Work :=
  let l := w.read addr
  let h := l.2.read (addr + 1)
  (join h.1 l.1, h.2)

/-- `MemRead16ZP(p)`: both bytes from page 0 (00_scope.md R12). -/
def Work.read16ZP (p : Byte) (w : Work) : Word × Work :=
  let l := w.read (zext16 p)
  let h := l.2.read (zext16 (p + 1))
  (join h.1 l.1, h.2)

/-! ## The stack (10_state.md R25 to R27) -/

/-- The address of the stack cell an offset points at: `{STACK_PAGE, SP}` (R25). -/
def stackAddr (sp : Byte) : Word := join stackPage sp

/-- `Push(v)`: writes at SP, then SP goes down by 1 modulo 256 (R26). -/
def Work.push (v : Byte) (w : Work) : Work :=
  (w.write (stackAddr w.st.sp) v).upd (fun s => s.setSP (s.sp - 1))

/-- `Pull()`: SP goes up by 1 modulo 256, then the byte there is read (R27). -/
def Work.pull (w : Work) : Byte × Work :=
  let w := w.upd (fun s => s.setSP (s.sp + 1))
  w.read (stackAddr w.st.sp)

/-- `Push(hi(w)); Push(lo(w))`: a 16-bit push, high byte first (20_memory.md R56). -/
def Work.push16 (v : Word) (w : Work) : Work := (w.push (hi v)).push (lo v)

/-- `l = Pull(); h = Pull()`: a 16-bit pull, low byte first. -/
def Work.pull16 (w : Work) : Word × Work :=
  let l := w.pull
  let h := l.2.pull
  (join h.1 l.1, h.2)

/-! ## The software trap and the return from it (60_exceptions.md R319, R320) -/

/-- Taking the trap (46_stack_flags_system.md R262): the return address is pushed, high byte first, then the copy of P
with Break and Unused set; I is set; D, B and the other registers stay; PC is read from the vector. -/
def Work.takeTrap (ret vector : Word) (w : Work) : Work :=
  let w := w.push16 ret
  let w := w.push (pushedStatus w.st.p)
  let w := w.setFlag .I true
  let t := w.read16 vector
  t.2.upd (fun s => s.setPC t.1)

/-- Pulls a byte and takes the six flags from it (46_stack_flags_system.md R253). -/
def Work.pullStatus (w : Work) : Work :=
  let v := w.pull
  v.2.upd (fun s => s.setP (setPulledFlags v.1 s.p))

/-- Returning from the trap (46_stack_flags_system.md R263): the flags, then the return address, with no + 1. -/
def Work.returnFromTrap (w : Work) : Work :=
  let a := w.pullStatus.pull16
  a.2.upd (fun s => s.setPC a.1)

/-! ## Fetching (6502_fetch_unit, 47_fetch_decode_step.md R281) -/

/-- The opcode byte at PC. -/
def State.opcodeAtPC (s : State) : Byte := s.byteAt s.pc

/-- The state after the fetch unit: PC advanced by 1, the opcode byte on the opcode and data latches. -/
def fetchUnit (s : State) : State :=
  ((s.setPC (s.pc + 1)).setOpcode s.opcodeAtPC).setDataBus s.opcodeAtPC

/-- The three bytes at PC: as long as the longest instruction, wrapping from 0xFFFF to 0x0000 (30_encoding.md R80). -/
def fetchWindow (s : State) : List Byte := [s.byteAt s.pc, s.byteAt (s.pc + 1), s.byteAt (s.pc + 2)]

/-- The instruction at PC, with its operand bytes; `none` for an unmapped opcode byte (47_fetch_decode_step.md R282). -/
def decodeAt (s : State) : Option Instr := (decode s.cfg.tableProfile (fetchWindow s)).instr?

/-! ## The working copy's beginning and end -/

/-- The working copy as the fetch unit leaves it. `s` is the state after the fetch unit: PC is past the opcode. -/
def start (s : State) : Work :=
  { st := s, log := [], mode := .imp, ea := none, operand := none, base := none, pageCross := false, extra := 0
    refusal := none }

/-- The address an access goes to. -/
def Access.addr : Access → Word
  | .read a _ => a
  | .write a _ => a

/-- The byte an access moves. -/
def Access.byte : Access → Byte
  | .read _ v => v
  | .write _ v => v

/-- The end of a step (47_fetch_decode_step.md R293): either all effects become visible, with the address latch
(10_state.md R35), or the first access the bus rejects turns the step into a fault without effect (60_exceptions.md
R312). `s` is the state after the fetch unit, so the entry PC is one less. A handler without a meaning in this
configuration is refused before that (log entry 7). -/
def commit (s : State) (w : Work) : Result :=
  match w.refusal with
  | some r => .refused r
  | none =>
    match w.log.find? (fun x => rejects s.cfg x.addr) with
    | some x => .fault (.addressingError (s.pc - 1) x.addr)
    | none => .next (w.st.setAddrBus (w.ea.getD w.st.addrBus))

end Sys2Proof.Machine
end

