-- ==== Sys2Proof/Machine/Operands.lean ====
section
/-! DEFINITION. The address resolver, unit 6502_address_resolver (41_address_resolver.md): one function per addressing
mode, and the handler side of its contract (R147). -/

namespace Sys2Proof.Machine

/-- Reads one operand byte of the instruction at PC and advances PC by 1 modulo 65536 (R131). The byte is the
instruction's own: `step` decoded it from this address. -/
def Work.fetchByte (v : Byte) (w : Work) : Work :=
  { w with st := (w.st.setPC (w.st.pc + 1)).setDataBus v, log := w.log ++ [.read w.st.pc v] }

/-- Reads a 16-bit operand, low byte first (R139). -/
def Work.fetchWord (a : Word) (w : Work) : Work := (w.fetchByte (lo a)).fetchByte (hi a)

/-- Delivers an effective address. -/
def Work.deliver (ea : Word) (w : Work) : Work := { w with ea := some ea }

/-- Delivers an effective address found from a base, with the page-crossing signal: the high bytes differ (R146).
DEDUCED, safe (log entry 15): the four modes with a page test are those that deliver a base. -/
def Work.deliverFrom (base ea : Word) (w : Work) : Work :=
  { w with ea := some ea, base := some base, pageCross := hi ea != hi base }

/-- R135: the operand is the fetched byte itself. -/
def resolveImm (v : Byte) (w : Work) : Work := { w.fetchByte v with operand := some v }

/-- R136: the operand byte, zero-extended. -/
def resolveZp (b : Byte) (w : Work) : Work := (w.fetchByte b).deliver (zext16 b)

/-- R137, R138: the sum with the index, modulo 256, in page 0. -/
def resolveZpIndexed (b index : Byte) (w : Work) : Work := (w.fetchByte b).deliver (zext16 (b + index))

/-- R139: the 16-bit operand. -/
def resolveAbs (a : Word) (w : Work) : Work := (w.fetchWord a).deliver a

/-- R140, R141: the sum with the index, modulo 65536. -/
def resolveAbsIndexed (a : Word) (index : Byte) (w : Work) : Work :=
  (w.fetchWord a).deliverFrom a (a + zext16 index)

/-- The address of the second pointer byte of Absolute Indirect: inside the pointer's page with `JMP_IND_PAGE_WRAP`,
else the next address (R142). -/
def secondPointer (pageWrap : Bool) (ptr : Word) : Word :=
  if pageWrap then join (hi ptr) (lo ptr + 1) else ptr + 1

/-- R142: the 16-bit value the operand points at. -/
def resolveInd (a : Word) (w : Work) : Work :=
  let w := w.fetchWord a
  let l := w.read a
  let h := l.2.read (secondPointer w.st.cfg.jmpIndPageWrap a)
  h.2.deliver (join h.1 l.1)

/-- R143: the pointer at the operand byte plus X, in page 0. -/
def resolveIndx (b : Byte) (w : Work) : Work :=
  let w := w.fetchByte b
  let t := w.read16ZP (b + w.st.x)
  t.2.deliver t.1

/-- R144: the pointer at the operand byte, in page 0, plus Y. -/
def resolveIndy (b : Byte) (w : Work) : Work :=
  let w := w.fetchByte b
  let t := w.read16ZP b
  t.2.deliverFrom t.1 (t.1 + zext16 w.st.y)

/-- R145: the displacement added to the address of the next instruction, which is also the page test's base. -/
def resolveRel (d : Byte) (w : Work) : Work :=
  let w := w.fetchByte d
  w.deliverFrom w.st.pc (w.st.pc + sext16 d)

/-- The resolver function of each mode (R133 to R145). Implied and Accumulator read nothing. -/
def resolveMode : Operand → Work → Work
  | .imp, w => w
  | .acc, w => w
  | .imm v, w => resolveImm v w
  | .zp b, w => resolveZp b w
  | .zpx b, w => resolveZpIndexed b w.st.x w
  | .zpy b, w => resolveZpIndexed b w.st.y w
  | .abs a, w => resolveAbs a w
  | .absx a, w => resolveAbsIndexed a w.st.x w
  | .absy a, w => resolveAbsIndexed a w.st.y w
  | .ind a, w => resolveInd a w
  | .indx b, w => resolveIndx b w
  | .indy b, w => resolveIndy b w
  | .rel d, w => resolveRel d w

/-- Resolving (47_fetch_decode_step.md R284), with the mode tag kept for the handler. -/
def resolve (o : Operand) (w : Work) : Work := { resolveMode o w with mode := o.mode }

/-- The effective address a handler uses. Handlers that use it are only mapped with modes that yield one
(log entry 3). -/
def Work.target (w : Work) : Word := w.ea.getD 0x0000

/-- `ReadOperand()` (R147): the delivered byte in Immediate, A in Accumulator, else the byte at `ea`. -/
def readOperand (w : Work) : Byte × Work :=
  match w.operand with
  | some v => (v, w)
  | none => if w.mode = .acc then (w.st.a, w) else w.read w.target

/-- `WriteResult(v)` (R147): A in Accumulator, else the byte at `ea`. -/
def writeResult (v : Byte) (w : Work) : Work :=
  if w.mode = .acc then w.upd (State.setA v) else w.write w.target v

/-- A whole instruction after its fetch (47_fetch_decode_step.md R286): resolve, run the handler, commit. -/
def run (o : Operand) (handler : Work → Work) (s : State) : Result := commit s (handler (resolve o (start s)))

end Sys2Proof.Machine
end

