-- ==== Sys2Proof/Machine/Arithmetic.lean ====
section
/-! DEFINITION. Arithmetic, logic, compare, increment and decrement (43_arithmetic_logic.md). For each mnemonic the
handler of its rule, which runs on the working copy the resolver leaves; then one meaning per opcode: the handler with
that opcode's addressing mode. -/

namespace Sys2Proof.Machine

/-- C, Z and N from a result with its carry: `setFlag(C, cout == 1); SetNZ(r)` (R187, 44_shift_rotate.md R211). -/
def setCNZ (c : Carried) (w : Work) : Work := (w.setFlag .C c.cout).setNZ c.r

/-- The end of ADC and SBC: `A <- r; setFlag(C, cout == 1); setFlag(V, vout); SetNZ(r)` (R181, R182). -/
def addToA (s : Sum) (w : Work) : Work :=
  (((w.upd (State.setA s.r)).setFlag .C s.cout).setFlag .V s.vout).setNZ s.r

/-- With `DECIMAL_MODE = refuse` ADC and SBC have no meaning when D = 1 (R181, 93_implementation_defined.md U3); with
`binaryOnly` D is ignored. -/
def decimalGuard (w : Work) : Work :=
  if w.st.cfg.decimalMode = .refuse ∧ w.st.flag .D = true then { w with refusal := some .decimalMode } else w

/-- Add with Carry (R181). -/
def doAdc (w : Work) : Work :=
  let m := readOperand w
  addToA (aluAdd m.2.st.a m.1 (m.2.st.flag .C)) (decimalGuard m.2)

/-- Opcode 69, mode imm (R181, 41_address_resolver.md R135). -/
def execAdcImm (v : Byte) (s : State) : Result := run (.imm v) doAdc s

/-- Opcode 65, mode zp (R181, 41_address_resolver.md R136). -/
def execAdcZp (b : Byte) (s : State) : Result := run (.zp b) doAdc s

/-- Opcode 75, mode zpx (R181, 41_address_resolver.md R137). -/
def execAdcZpx (b : Byte) (s : State) : Result := run (.zpx b) doAdc s

/-- Opcode 6D, mode abs (R181, 41_address_resolver.md R139). -/
def execAdcAbs (a : Word) (s : State) : Result := run (.abs a) doAdc s

/-- Opcode 7D, mode absx (R181, 41_address_resolver.md R140). -/
def execAdcAbsx (a : Word) (s : State) : Result := run (.absx a) doAdc s

/-- Opcode 79, mode absy (R181, 41_address_resolver.md R141). -/
def execAdcAbsy (a : Word) (s : State) : Result := run (.absy a) doAdc s

/-- Opcode 61, mode indx (R181, 41_address_resolver.md R143). -/
def execAdcIndx (b : Byte) (s : State) : Result := run (.indx b) doAdc s

/-- Opcode 71, mode indy (R181, 41_address_resolver.md R144). -/
def execAdcIndy (b : Byte) (s : State) : Result := run (.indy b) doAdc s

/-- Subtract with Carry (R182). -/
def doSbc (w : Work) : Work :=
  let m := readOperand w
  addToA (aluSub m.2.st.a m.1 (m.2.st.flag .C)) (decimalGuard m.2)

/-- Opcode E9, mode imm (R182, 41_address_resolver.md R135). -/
def execSbcImm (v : Byte) (s : State) : Result := run (.imm v) doSbc s

/-- Opcode E5, mode zp (R182, 41_address_resolver.md R136). -/
def execSbcZp (b : Byte) (s : State) : Result := run (.zp b) doSbc s

/-- Opcode F5, mode zpx (R182, 41_address_resolver.md R137). -/
def execSbcZpx (b : Byte) (s : State) : Result := run (.zpx b) doSbc s

/-- Opcode ED, mode abs (R182, 41_address_resolver.md R139). -/
def execSbcAbs (a : Word) (s : State) : Result := run (.abs a) doSbc s

/-- Opcode FD, mode absx (R182, 41_address_resolver.md R140). -/
def execSbcAbsx (a : Word) (s : State) : Result := run (.absx a) doSbc s

/-- Opcode F9, mode absy (R182, 41_address_resolver.md R141). -/
def execSbcAbsy (a : Word) (s : State) : Result := run (.absy a) doSbc s

/-- Opcode E1, mode indx (R182, 41_address_resolver.md R143). -/
def execSbcIndx (b : Byte) (s : State) : Result := run (.indx b) doSbc s

/-- Opcode F1, mode indy (R182, 41_address_resolver.md R144). -/
def execSbcIndy (b : Byte) (s : State) : Result := run (.indy b) doSbc s

/-- Bitwise AND with A (R183). -/
def doAnd (w : Work) : Work :=
  let m := readOperand w
  let r := aluAnd m.2.st.a m.1
  (m.2.upd (State.setA r)).setNZ r

/-- Opcode 29, mode imm (R183, 41_address_resolver.md R135). -/
def execAndImm (v : Byte) (s : State) : Result := run (.imm v) doAnd s

/-- Opcode 25, mode zp (R183, 41_address_resolver.md R136). -/
def execAndZp (b : Byte) (s : State) : Result := run (.zp b) doAnd s

/-- Opcode 35, mode zpx (R183, 41_address_resolver.md R137). -/
def execAndZpx (b : Byte) (s : State) : Result := run (.zpx b) doAnd s

/-- Opcode 2D, mode abs (R183, 41_address_resolver.md R139). -/
def execAndAbs (a : Word) (s : State) : Result := run (.abs a) doAnd s

/-- Opcode 3D, mode absx (R183, 41_address_resolver.md R140). -/
def execAndAbsx (a : Word) (s : State) : Result := run (.absx a) doAnd s

/-- Opcode 39, mode absy (R183, 41_address_resolver.md R141). -/
def execAndAbsy (a : Word) (s : State) : Result := run (.absy a) doAnd s

/-- Opcode 21, mode indx (R183, 41_address_resolver.md R143). -/
def execAndIndx (b : Byte) (s : State) : Result := run (.indx b) doAnd s

/-- Opcode 31, mode indy (R183, 41_address_resolver.md R144). -/
def execAndIndy (b : Byte) (s : State) : Result := run (.indy b) doAnd s

/-- Bitwise OR with A (R184). -/
def doOra (w : Work) : Work :=
  let m := readOperand w
  let r := aluOra m.2.st.a m.1
  (m.2.upd (State.setA r)).setNZ r

/-- Opcode 09, mode imm (R184, 41_address_resolver.md R135). -/
def execOraImm (v : Byte) (s : State) : Result := run (.imm v) doOra s

/-- Opcode 05, mode zp (R184, 41_address_resolver.md R136). -/
def execOraZp (b : Byte) (s : State) : Result := run (.zp b) doOra s

/-- Opcode 15, mode zpx (R184, 41_address_resolver.md R137). -/
def execOraZpx (b : Byte) (s : State) : Result := run (.zpx b) doOra s

/-- Opcode 0D, mode abs (R184, 41_address_resolver.md R139). -/
def execOraAbs (a : Word) (s : State) : Result := run (.abs a) doOra s

/-- Opcode 1D, mode absx (R184, 41_address_resolver.md R140). -/
def execOraAbsx (a : Word) (s : State) : Result := run (.absx a) doOra s

/-- Opcode 19, mode absy (R184, 41_address_resolver.md R141). -/
def execOraAbsy (a : Word) (s : State) : Result := run (.absy a) doOra s

/-- Opcode 01, mode indx (R184, 41_address_resolver.md R143). -/
def execOraIndx (b : Byte) (s : State) : Result := run (.indx b) doOra s

/-- Opcode 11, mode indy (R184, 41_address_resolver.md R144). -/
def execOraIndy (b : Byte) (s : State) : Result := run (.indy b) doOra s

/-- Bitwise exclusive OR with A (R185). -/
def doEor (w : Work) : Work :=
  let m := readOperand w
  let r := aluEor m.2.st.a m.1
  (m.2.upd (State.setA r)).setNZ r

/-- Opcode 49, mode imm (R185, 41_address_resolver.md R135). -/
def execEorImm (v : Byte) (s : State) : Result := run (.imm v) doEor s

/-- Opcode 45, mode zp (R185, 41_address_resolver.md R136). -/
def execEorZp (b : Byte) (s : State) : Result := run (.zp b) doEor s

/-- Opcode 55, mode zpx (R185, 41_address_resolver.md R137). -/
def execEorZpx (b : Byte) (s : State) : Result := run (.zpx b) doEor s

/-- Opcode 4D, mode abs (R185, 41_address_resolver.md R139). -/
def execEorAbs (a : Word) (s : State) : Result := run (.abs a) doEor s

/-- Opcode 5D, mode absx (R185, 41_address_resolver.md R140). -/
def execEorAbsx (a : Word) (s : State) : Result := run (.absx a) doEor s

/-- Opcode 59, mode absy (R185, 41_address_resolver.md R141). -/
def execEorAbsy (a : Word) (s : State) : Result := run (.absy a) doEor s

/-- Opcode 41, mode indx (R185, 41_address_resolver.md R143). -/
def execEorIndx (b : Byte) (s : State) : Result := run (.indx b) doEor s

/-- Opcode 51, mode indy (R185, 41_address_resolver.md R144). -/
def execEorIndy (b : Byte) (s : State) : Result := run (.indy b) doEor s

/-- Test bits (R186): A is not changed; N and V come from the memory byte. -/
def doBit (w : Work) : Work :=
  let m := w.read w.target
  let t := aluBit m.2.st.a m.1
  ((m.2.setFlag .Z t.z).setFlag .N t.n).setFlag .V t.v

/-- Opcode 24, mode zp (R186, 41_address_resolver.md R136). -/
def execBitZp (b : Byte) (s : State) : Result := run (.zp b) doBit s

/-- Opcode 2C, mode abs (R186, 41_address_resolver.md R139). -/
def execBitAbs (a : Word) (s : State) : Result := run (.abs a) doBit s

/-- Compare A (R187): A is not changed. -/
def doCmp (w : Work) : Work :=
  let m := readOperand w
  setCNZ (aluCmp m.2.st.a m.1) m.2

/-- Opcode C9, mode imm (R187, 41_address_resolver.md R135). -/
def execCmpImm (v : Byte) (s : State) : Result := run (.imm v) doCmp s

/-- Opcode C5, mode zp (R187, 41_address_resolver.md R136). -/
def execCmpZp (b : Byte) (s : State) : Result := run (.zp b) doCmp s

/-- Opcode D5, mode zpx (R187, 41_address_resolver.md R137). -/
def execCmpZpx (b : Byte) (s : State) : Result := run (.zpx b) doCmp s

/-- Opcode CD, mode abs (R187, 41_address_resolver.md R139). -/
def execCmpAbs (a : Word) (s : State) : Result := run (.abs a) doCmp s

/-- Opcode DD, mode absx (R187, 41_address_resolver.md R140). -/
def execCmpAbsx (a : Word) (s : State) : Result := run (.absx a) doCmp s

/-- Opcode D9, mode absy (R187, 41_address_resolver.md R141). -/
def execCmpAbsy (a : Word) (s : State) : Result := run (.absy a) doCmp s

/-- Opcode C1, mode indx (R187, 41_address_resolver.md R143). -/
def execCmpIndx (b : Byte) (s : State) : Result := run (.indx b) doCmp s

/-- Opcode D1, mode indy (R187, 41_address_resolver.md R144). -/
def execCmpIndy (b : Byte) (s : State) : Result := run (.indy b) doCmp s

/-- Compare X (R188): X is not changed. -/
def doCpx (w : Work) : Work :=
  let m := readOperand w
  setCNZ (aluCmp m.2.st.x m.1) m.2

/-- Opcode E0, mode imm (R188, 41_address_resolver.md R135). -/
def execCpxImm (v : Byte) (s : State) : Result := run (.imm v) doCpx s

/-- Opcode E4, mode zp (R188, 41_address_resolver.md R136). -/
def execCpxZp (b : Byte) (s : State) : Result := run (.zp b) doCpx s

/-- Opcode EC, mode abs (R188, 41_address_resolver.md R139). -/
def execCpxAbs (a : Word) (s : State) : Result := run (.abs a) doCpx s

/-- Compare Y (R189): Y is not changed. -/
def doCpy (w : Work) : Work :=
  let m := readOperand w
  setCNZ (aluCmp m.2.st.y m.1) m.2

/-- Opcode C0, mode imm (R189, 41_address_resolver.md R135). -/
def execCpyImm (v : Byte) (s : State) : Result := run (.imm v) doCpy s

/-- Opcode C4, mode zp (R189, 41_address_resolver.md R136). -/
def execCpyZp (b : Byte) (s : State) : Result := run (.zp b) doCpy s

/-- Opcode CC, mode abs (R189, 41_address_resolver.md R139). -/
def execCpyAbs (a : Word) (s : State) : Result := run (.abs a) doCpy s

/-- Increment memory (R190). -/
def doInc (w : Work) : Work :=
  let m := w.read w.target
  let r := aluInc m.1
  (m.2.write w.target r).setNZ r

/-- Opcode E6, mode zp (R190, 41_address_resolver.md R136). -/
def execIncZp (b : Byte) (s : State) : Result := run (.zp b) doInc s

/-- Opcode F6, mode zpx (R190, 41_address_resolver.md R137). -/
def execIncZpx (b : Byte) (s : State) : Result := run (.zpx b) doInc s

/-- Opcode EE, mode abs (R190, 41_address_resolver.md R139). -/
def execIncAbs (a : Word) (s : State) : Result := run (.abs a) doInc s

/-- Opcode FE, mode absx (R190, 41_address_resolver.md R140). -/
def execIncAbsx (a : Word) (s : State) : Result := run (.absx a) doInc s

/-- Decrement memory (R191). -/
def doDec (w : Work) : Work :=
  let m := w.read w.target
  let r := aluDec m.1
  (m.2.write w.target r).setNZ r

/-- Opcode C6, mode zp (R191, 41_address_resolver.md R136). -/
def execDecZp (b : Byte) (s : State) : Result := run (.zp b) doDec s

/-- Opcode D6, mode zpx (R191, 41_address_resolver.md R137). -/
def execDecZpx (b : Byte) (s : State) : Result := run (.zpx b) doDec s

/-- Opcode CE, mode abs (R191, 41_address_resolver.md R139). -/
def execDecAbs (a : Word) (s : State) : Result := run (.abs a) doDec s

/-- Opcode DE, mode absx (R191, 41_address_resolver.md R140). -/
def execDecAbsx (a : Word) (s : State) : Result := run (.absx a) doDec s

/-- Increment X (R192). -/
def doInx (w : Work) : Work :=
  let r := aluInc w.st.x
  (w.upd (State.setX r)).setNZ r

/-- Opcode E8, mode imp (R192, 41_address_resolver.md R133). -/
def execInx (s : State) : Result := run .imp doInx s

/-- Increment Y (R193). -/
def doIny (w : Work) : Work :=
  let r := aluInc w.st.y
  (w.upd (State.setY r)).setNZ r

/-- Opcode C8, mode imp (R193, 41_address_resolver.md R133). -/
def execIny (s : State) : Result := run .imp doIny s

/-- Decrement X (R194). -/
def doDex (w : Work) : Work :=
  let r := aluDec w.st.x
  (w.upd (State.setX r)).setNZ r

/-- Opcode CA, mode imp (R194, 41_address_resolver.md R133). -/
def execDex (s : State) : Result := run .imp doDex s

/-- Decrement Y (R195). -/
def doDey (w : Work) : Work :=
  let r := aluDec w.st.y
  (w.upd (State.setY r)).setNZ r

/-- Opcode 88, mode imp (R195, 41_address_resolver.md R133). -/
def execDey (s : State) : Result := run .imp doDey s

end Sys2Proof.Machine
end

