-- ==== Sys2Proof/Machine/ControlFlow.lean ====
section
/-! DEFINITION. Control transfer (45_control_flow.md). For each mnemonic the handler of its rule, which runs on the
working copy the resolver leaves; then one meaning per opcode: the handler with that opcode's addressing mode. -/

namespace Sys2Proof.Machine

/-- The handler of every branch (R220): taken, PC becomes `ea` at one extra cycle, or two across a page. -/
def branch (cond : Bool) (w : Work) : Work :=
  if cond then { w.upd (State.setPC w.target) with extra := 1 + w.pageCross.toNat } else w

/-- Branch if Carry Clear (R221). -/
def doBcc (w : Work) : Work :=
  branch (!w.st.flag .C) w

/-- Opcode 90, mode rel (R221, 41_address_resolver.md R145). -/
def execBcc (d : Byte) (s : State) : Result := run (.rel d) doBcc s

/-- Branch if Carry Set (R222). -/
def doBcs (w : Work) : Work :=
  branch (w.st.flag .C) w

/-- Opcode B0, mode rel (R222, 41_address_resolver.md R145). -/
def execBcs (d : Byte) (s : State) : Result := run (.rel d) doBcs s

/-- Branch if Equal (R223). -/
def doBeq (w : Work) : Work :=
  branch (w.st.flag .Z) w

/-- Opcode F0, mode rel (R223, 41_address_resolver.md R145). -/
def execBeq (d : Byte) (s : State) : Result := run (.rel d) doBeq s

/-- Branch if Not Equal (R224). -/
def doBne (w : Work) : Work :=
  branch (!w.st.flag .Z) w

/-- Opcode D0, mode rel (R224, 41_address_resolver.md R145). -/
def execBne (d : Byte) (s : State) : Result := run (.rel d) doBne s

/-- Branch if Minus (R225). -/
def doBmi (w : Work) : Work :=
  branch (w.st.flag .N) w

/-- Opcode 30, mode rel (R225, 41_address_resolver.md R145). -/
def execBmi (d : Byte) (s : State) : Result := run (.rel d) doBmi s

/-- Branch if Plus (R226). -/
def doBpl (w : Work) : Work :=
  branch (!w.st.flag .N) w

/-- Opcode 10, mode rel (R226, 41_address_resolver.md R145). -/
def execBpl (d : Byte) (s : State) : Result := run (.rel d) doBpl s

/-- Branch if Overflow Clear (R227). -/
def doBvc (w : Work) : Work :=
  branch (!w.st.flag .V) w

/-- Opcode 50, mode rel (R227, 41_address_resolver.md R145). -/
def execBvc (d : Byte) (s : State) : Result := run (.rel d) doBvc s

/-- Branch if Overflow Set (R228). -/
def doBvs (w : Work) : Work :=
  branch (w.st.flag .V) w

/-- Opcode 70, mode rel (R228, 41_address_resolver.md R145). -/
def execBvs (d : Byte) (s : State) : Result := run (.rel d) doBvs s

/-- Jump (R229): the handler does not read memory at `ea`. -/
def doJmp (w : Work) : Work :=
  w.upd (State.setPC w.target)

/-- Opcode 4C, mode abs (R229, 41_address_resolver.md R139). -/
def execJmpAbs (a : Word) (s : State) : Result := run (.abs a) doJmp s

/-- Opcode 6C, mode ind (R229, 41_address_resolver.md R142). -/
def execJmpInd (a : Word) (s : State) : Result := run (.ind a) doJmp s

/-- Jump to Subroutine (R230): PC is past the three bytes, so the address of the third is pushed. -/
def doJsr (w : Work) : Work :=
  (w.push16 (w.st.pc - 1)).upd (State.setPC w.target)

/-- Opcode 20, mode abs (R230, 41_address_resolver.md R139). -/
def execJsr (a : Word) (s : State) : Result := run (.abs a) doJsr s

/-- Return from Subroutine (R231): the pulled address plus 1. -/
def doRts (w : Work) : Work :=
  let a := w.pull16
  a.2.upd (State.setPC (a.1 + 1))

/-- Opcode 60, mode imp (R231, 41_address_resolver.md R133). -/
def execRts (s : State) : Result := run .imp doRts s

end Sys2Proof.Machine
end

