-- ==== Sys2Proof/Machine/LoadStore.lean ====
section
/-! DEFINITION. Loads, stores and register transfers (42_load_store_transfer.md). For each mnemonic the handler of its
rule, which runs on the working copy the resolver leaves; then one meaning per opcode: the handler with that opcode's
addressing mode. -/

namespace Sys2Proof.Machine

/-- Load Accumulator (R161). -/
def doLda (w : Work) : Work :=
  let m := readOperand w
  let v := aluPass m.1
  (m.2.upd (State.setA v)).setNZ v

/-- Opcode A9, mode imm (R161, 41_address_resolver.md R135). -/
def execLdaImm (v : Byte) (s : State) : Result := run (.imm v) doLda s

/-- Opcode A5, mode zp (R161, 41_address_resolver.md R136). -/
def execLdaZp (b : Byte) (s : State) : Result := run (.zp b) doLda s

/-- Opcode B5, mode zpx (R161, 41_address_resolver.md R137). -/
def execLdaZpx (b : Byte) (s : State) : Result := run (.zpx b) doLda s

/-- Opcode AD, mode abs (R161, 41_address_resolver.md R139). -/
def execLdaAbs (a : Word) (s : State) : Result := run (.abs a) doLda s

/-- Opcode BD, mode absx (R161, 41_address_resolver.md R140). -/
def execLdaAbsx (a : Word) (s : State) : Result := run (.absx a) doLda s

/-- Opcode B9, mode absy (R161, 41_address_resolver.md R141). -/
def execLdaAbsy (a : Word) (s : State) : Result := run (.absy a) doLda s

/-- Opcode A1, mode indx (R161, 41_address_resolver.md R143). -/
def execLdaIndx (b : Byte) (s : State) : Result := run (.indx b) doLda s

/-- Opcode B1, mode indy (R161, 41_address_resolver.md R144). -/
def execLdaIndy (b : Byte) (s : State) : Result := run (.indy b) doLda s

/-- Load X (R162). -/
def doLdx (w : Work) : Work :=
  let m := readOperand w
  let v := aluPass m.1
  (m.2.upd (State.setX v)).setNZ v

/-- Opcode A2, mode imm (R162, 41_address_resolver.md R135). -/
def execLdxImm (v : Byte) (s : State) : Result := run (.imm v) doLdx s

/-- Opcode A6, mode zp (R162, 41_address_resolver.md R136). -/
def execLdxZp (b : Byte) (s : State) : Result := run (.zp b) doLdx s

/-- Opcode B6, mode zpy (R162, 41_address_resolver.md R138). -/
def execLdxZpy (b : Byte) (s : State) : Result := run (.zpy b) doLdx s

/-- Opcode AE, mode abs (R162, 41_address_resolver.md R139). -/
def execLdxAbs (a : Word) (s : State) : Result := run (.abs a) doLdx s

/-- Opcode BE, mode absy (R162, 41_address_resolver.md R141). -/
def execLdxAbsy (a : Word) (s : State) : Result := run (.absy a) doLdx s

/-- Load Y (R163). -/
def doLdy (w : Work) : Work :=
  let m := readOperand w
  let v := aluPass m.1
  (m.2.upd (State.setY v)).setNZ v

/-- Opcode A0, mode imm (R163, 41_address_resolver.md R135). -/
def execLdyImm (v : Byte) (s : State) : Result := run (.imm v) doLdy s

/-- Opcode A4, mode zp (R163, 41_address_resolver.md R136). -/
def execLdyZp (b : Byte) (s : State) : Result := run (.zp b) doLdy s

/-- Opcode B4, mode zpx (R163, 41_address_resolver.md R137). -/
def execLdyZpx (b : Byte) (s : State) : Result := run (.zpx b) doLdy s

/-- Opcode AC, mode abs (R163, 41_address_resolver.md R139). -/
def execLdyAbs (a : Word) (s : State) : Result := run (.abs a) doLdy s

/-- Opcode BC, mode absx (R163, 41_address_resolver.md R140). -/
def execLdyAbsx (a : Word) (s : State) : Result := run (.absx a) doLdy s

/-- Store Accumulator (R164): Store the register at `ea`; memory there is not read first. -/
def doSta (w : Work) : Work :=
  w.write w.target w.st.a

/-- Opcode 85, mode zp (R164, 41_address_resolver.md R136). -/
def execStaZp (b : Byte) (s : State) : Result := run (.zp b) doSta s

/-- Opcode 95, mode zpx (R164, 41_address_resolver.md R137). -/
def execStaZpx (b : Byte) (s : State) : Result := run (.zpx b) doSta s

/-- Opcode 8D, mode abs (R164, 41_address_resolver.md R139). -/
def execStaAbs (a : Word) (s : State) : Result := run (.abs a) doSta s

/-- Opcode 9D, mode absx (R164, 41_address_resolver.md R140). -/
def execStaAbsx (a : Word) (s : State) : Result := run (.absx a) doSta s

/-- Opcode 99, mode absy (R164, 41_address_resolver.md R141). -/
def execStaAbsy (a : Word) (s : State) : Result := run (.absy a) doSta s

/-- Opcode 81, mode indx (R164, 41_address_resolver.md R143). -/
def execStaIndx (b : Byte) (s : State) : Result := run (.indx b) doSta s

/-- Opcode 91, mode indy (R164, 41_address_resolver.md R144). -/
def execStaIndy (b : Byte) (s : State) : Result := run (.indy b) doSta s

/-- Store X (R165). -/
def doStx (w : Work) : Work :=
  w.write w.target w.st.x

/-- Opcode 86, mode zp (R165, 41_address_resolver.md R136). -/
def execStxZp (b : Byte) (s : State) : Result := run (.zp b) doStx s

/-- Opcode 96, mode zpy (R165, 41_address_resolver.md R138). -/
def execStxZpy (b : Byte) (s : State) : Result := run (.zpy b) doStx s

/-- Opcode 8E, mode abs (R165, 41_address_resolver.md R139). -/
def execStxAbs (a : Word) (s : State) : Result := run (.abs a) doStx s

/-- Store Y (R166). -/
def doSty (w : Work) : Work :=
  w.write w.target w.st.y

/-- Opcode 84, mode zp (R166, 41_address_resolver.md R136). -/
def execStyZp (b : Byte) (s : State) : Result := run (.zp b) doSty s

/-- Opcode 94, mode zpx (R166, 41_address_resolver.md R137). -/
def execStyZpx (b : Byte) (s : State) : Result := run (.zpx b) doSty s

/-- Opcode 8C, mode abs (R166, 41_address_resolver.md R139). -/
def execStyAbs (a : Word) (s : State) : Result := run (.abs a) doSty s

/-- Transfer A to X (R167). -/
def doTax (w : Work) : Work :=
  let v := aluPass w.st.a
  (w.upd (State.setX v)).setNZ v

/-- Opcode AA, mode imp (R167, 41_address_resolver.md R133). -/
def execTax (s : State) : Result := run .imp doTax s

/-- Transfer A to Y (R168). -/
def doTay (w : Work) : Work :=
  let v := aluPass w.st.a
  (w.upd (State.setY v)).setNZ v

/-- Opcode A8, mode imp (R168, 41_address_resolver.md R133). -/
def execTay (s : State) : Result := run .imp doTay s

/-- Transfer X to A (R169). -/
def doTxa (w : Work) : Work :=
  let v := aluPass w.st.x
  (w.upd (State.setA v)).setNZ v

/-- Opcode 8A, mode imp (R169, 41_address_resolver.md R133). -/
def execTxa (s : State) : Result := run .imp doTxa s

/-- Transfer Y to A (R170). -/
def doTya (w : Work) : Work :=
  let v := aluPass w.st.y
  (w.upd (State.setA v)).setNZ v

/-- Opcode 98, mode imp (R170, 41_address_resolver.md R133). -/
def execTya (s : State) : Result := run .imp doTya s

/-- Transfer SP to X (R171). -/
def doTsx (w : Work) : Work :=
  let v := aluPass w.st.sp
  (w.upd (State.setX v)).setNZ v

/-- Opcode BA, mode imp (R171, 41_address_resolver.md R133). -/
def execTsx (s : State) : Result := run .imp doTsx s

/-- Transfer X to SP (R172): no flag is written. -/
def doTxs (w : Work) : Work :=
  w.upd (State.setSP w.st.x)

/-- Opcode 9A, mode imp (R172, 41_address_resolver.md R133). -/
def execTxs (s : State) : Result := run .imp doTxs s

end Sys2Proof.Machine
end

