-- ==== Sys2Proof/Machine/Shift.lean ====
section
/-! DEFINITION. Shifts and rotates (44_shift_rotate.md). For each mnemonic the handler of its rule, which runs on the
working copy the resolver leaves; then one meaning per opcode: the handler with that opcode's addressing mode. -/

namespace Sys2Proof.Machine

/-- Arithmetic Shift Left (R211). -/
def doAsl (w : Work) : Work :=
  let v := readOperand w
  let c := aluAsl v.1
  setCNZ c (writeResult c.r v.2)

/-- Opcode 0A, mode acc (R211, 41_address_resolver.md R134). -/
def execAslAcc (s : State) : Result := run .acc doAsl s

/-- Opcode 06, mode zp (R211, 41_address_resolver.md R136). -/
def execAslZp (b : Byte) (s : State) : Result := run (.zp b) doAsl s

/-- Opcode 16, mode zpx (R211, 41_address_resolver.md R137). -/
def execAslZpx (b : Byte) (s : State) : Result := run (.zpx b) doAsl s

/-- Opcode 0E, mode abs (R211, 41_address_resolver.md R139). -/
def execAslAbs (a : Word) (s : State) : Result := run (.abs a) doAsl s

/-- Opcode 1E, mode absx (R211, 41_address_resolver.md R140). -/
def execAslAbsx (a : Word) (s : State) : Result := run (.absx a) doAsl s

/-- Logical Shift Right (R212). -/
def doLsr (w : Work) : Work :=
  let v := readOperand w
  let c := aluLsr v.1
  setCNZ c (writeResult c.r v.2)

/-- Opcode 4A, mode acc (R212, 41_address_resolver.md R134). -/
def execLsrAcc (s : State) : Result := run .acc doLsr s

/-- Opcode 46, mode zp (R212, 41_address_resolver.md R136). -/
def execLsrZp (b : Byte) (s : State) : Result := run (.zp b) doLsr s

/-- Opcode 56, mode zpx (R212, 41_address_resolver.md R137). -/
def execLsrZpx (b : Byte) (s : State) : Result := run (.zpx b) doLsr s

/-- Opcode 4E, mode abs (R212, 41_address_resolver.md R139). -/
def execLsrAbs (a : Word) (s : State) : Result := run (.abs a) doLsr s

/-- Opcode 5E, mode absx (R212, 41_address_resolver.md R140). -/
def execLsrAbsx (a : Word) (s : State) : Result := run (.absx a) doLsr s

/-- Rotate Left through carry (R213). -/
def doRol (w : Work) : Work :=
  let v := readOperand w
  let c := aluRol v.1 (v.2.st.flag .C)
  setCNZ c (writeResult c.r v.2)

/-- Opcode 2A, mode acc (R213, 41_address_resolver.md R134). -/
def execRolAcc (s : State) : Result := run .acc doRol s

/-- Opcode 26, mode zp (R213, 41_address_resolver.md R136). -/
def execRolZp (b : Byte) (s : State) : Result := run (.zp b) doRol s

/-- Opcode 36, mode zpx (R213, 41_address_resolver.md R137). -/
def execRolZpx (b : Byte) (s : State) : Result := run (.zpx b) doRol s

/-- Opcode 2E, mode abs (R213, 41_address_resolver.md R139). -/
def execRolAbs (a : Word) (s : State) : Result := run (.abs a) doRol s

/-- Opcode 3E, mode absx (R213, 41_address_resolver.md R140). -/
def execRolAbsx (a : Word) (s : State) : Result := run (.absx a) doRol s

/-- Rotate Right through carry (R214). -/
def doRor (w : Work) : Work :=
  let v := readOperand w
  let c := aluRor v.1 (v.2.st.flag .C)
  setCNZ c (writeResult c.r v.2)

/-- Opcode 6A, mode acc (R214, 41_address_resolver.md R134). -/
def execRorAcc (s : State) : Result := run .acc doRor s

/-- Opcode 66, mode zp (R214, 41_address_resolver.md R136). -/
def execRorZp (b : Byte) (s : State) : Result := run (.zp b) doRor s

/-- Opcode 76, mode zpx (R214, 41_address_resolver.md R137). -/
def execRorZpx (b : Byte) (s : State) : Result := run (.zpx b) doRor s

/-- Opcode 6E, mode abs (R214, 41_address_resolver.md R139). -/
def execRorAbs (a : Word) (s : State) : Result := run (.abs a) doRor s

/-- Opcode 7E, mode absx (R214, 41_address_resolver.md R140). -/
def execRorAbsx (a : Word) (s : State) : Result := run (.absx a) doRor s

end Sys2Proof.Machine
end

