-- ==== Sys2Proof/Machine/System.lean ====
section
/-! DEFINITION. Stack, flag and system instructions (46_stack_flags_system.md). For each mnemonic the handler of its
rule, which runs on the working copy the resolver leaves; then one meaning per opcode: the handler with that opcode's
addressing mode. -/

namespace Sys2Proof.Machine

/-- Push A (R250). -/
def doPha (w : Work) : Work :=
  w.push w.st.a

/-- Opcode 48, mode imp (R250, 41_address_resolver.md R133). -/
def execPha (s : State) : Result := run .imp doPha s

/-- Push Processor status (R251). -/
def doPhp (w : Work) : Work :=
  w.push (pushedStatus w.st.p)

/-- Opcode 08, mode imp (R251, 41_address_resolver.md R133). -/
def execPhp (s : State) : Result := run .imp doPhp s

/-- Pull A (R252). -/
def doPla (w : Work) : Work :=
  let v := w.pull
  (v.2.upd (State.setA v.1)).setNZ v.1

/-- Opcode 68, mode imp (R252, 41_address_resolver.md R133). -/
def execPla (s : State) : Result := run .imp doPla s

/-- Pull Processor status (R253). -/
def doPlp (w : Work) : Work :=
  w.pullStatus

/-- Opcode 28, mode imp (R253, 41_address_resolver.md R133). -/
def execPlp (s : State) : Result := run .imp doPlp s

/-- Clear Carry (R254). -/
def doClc (w : Work) : Work :=
  w.setFlag .C false

/-- Opcode 18, mode imp (R254, 41_address_resolver.md R133). -/
def execClc (s : State) : Result := run .imp doClc s

/-- Set Carry (R255). -/
def doSec (w : Work) : Work :=
  w.setFlag .C true

/-- Opcode 38, mode imp (R255, 41_address_resolver.md R133). -/
def execSec (s : State) : Result := run .imp doSec s

/-- Clear Interrupt disable (R256). -/
def doCli (w : Work) : Work :=
  w.setFlag .I false

/-- Opcode 58, mode imp (R256, 41_address_resolver.md R133). -/
def execCli (s : State) : Result := run .imp doCli s

/-- Set Interrupt disable (R257). -/
def doSei (w : Work) : Work :=
  w.setFlag .I true

/-- Opcode 78, mode imp (R257, 41_address_resolver.md R133). -/
def execSei (s : State) : Result := run .imp doSei s

/-- Clear Decimal (R258). -/
def doCld (w : Work) : Work :=
  w.setFlag .D false

/-- Opcode D8, mode imp (R258, 41_address_resolver.md R133). -/
def execCld (s : State) : Result := run .imp doCld s

/-- Set Decimal (R259). -/
def doSed (w : Work) : Work :=
  w.setFlag .D true

/-- Opcode F8, mode imp (R259, 41_address_resolver.md R133). -/
def execSed (s : State) : Result := run .imp doSed s

/-- Clear Overflow (R260). -/
def doClv (w : Work) : Work :=
  w.setFlag .V false

/-- Opcode B8, mode imp (R260, 41_address_resolver.md R133). -/
def execClv (s : State) : Result := run .imp doClv s

/-- No Operation (R261): nothing changes. -/
def doNop (w : Work) : Work :=
  w

/-- Opcode EA, mode imp (R261, 41_address_resolver.md R133). -/
def execNop (s : State) : Result := run .imp doNop s

/-- Break, the software trap (R262): after the fetch PC is past the opcode, so the return address is the address of BRK plus 2. -/
def doBrk (w : Work) : Work :=
  w.takeTrap (w.st.pc + 1) brkVector

/-- Opcode 00, mode imp (R262, 41_address_resolver.md R133). -/
def execBrk (s : State) : Result := run .imp doBrk s

/-- Return from Interrupt (R263): no + 1, unlike RTS. -/
def doRti (w : Work) : Work :=
  w.returnFromTrap

/-- Opcode 40, mode imp (R263, 41_address_resolver.md R133). -/
def execRti (s : State) : Result := run .imp doRti s

end Sys2Proof.Machine
end

