-- ==== Sys2Proof/Machine/Dispatch.lean ====
section
/-! DEFINITION. One instruction: one arm per constructor of `Instr`, each one call of that instruction's meaning. The
state is the one the fetch unit leaves (log entry 2): PC is past the opcode byte. -/

namespace Sys2Proof.Machine

def exec (i : Instr) (s : State) : Host.Outcome State Fault Refusal :=
  match i with
  -- 42_load_store_transfer.md
  | .ldaImm v => Sys2Proof.Machine.execLdaImm v s
  | .ldaZp b => Sys2Proof.Machine.execLdaZp b s
  | .ldaZpx b => Sys2Proof.Machine.execLdaZpx b s
  | .ldaAbs a => Sys2Proof.Machine.execLdaAbs a s
  | .ldaAbsx a => Sys2Proof.Machine.execLdaAbsx a s
  | .ldaAbsy a => Sys2Proof.Machine.execLdaAbsy a s
  | .ldaIndx b => Sys2Proof.Machine.execLdaIndx b s
  | .ldaIndy b => Sys2Proof.Machine.execLdaIndy b s
  | .ldxImm v => Sys2Proof.Machine.execLdxImm v s
  | .ldxZp b => Sys2Proof.Machine.execLdxZp b s
  | .ldxZpy b => Sys2Proof.Machine.execLdxZpy b s
  | .ldxAbs a => Sys2Proof.Machine.execLdxAbs a s
  | .ldxAbsy a => Sys2Proof.Machine.execLdxAbsy a s
  | .ldyImm v => Sys2Proof.Machine.execLdyImm v s
  | .ldyZp b => Sys2Proof.Machine.execLdyZp b s
  | .ldyZpx b => Sys2Proof.Machine.execLdyZpx b s
  | .ldyAbs a => Sys2Proof.Machine.execLdyAbs a s
  | .ldyAbsx a => Sys2Proof.Machine.execLdyAbsx a s
  | .staZp b => Sys2Proof.Machine.execStaZp b s
  | .staZpx b => Sys2Proof.Machine.execStaZpx b s
  | .staAbs a => Sys2Proof.Machine.execStaAbs a s
  | .staAbsx a => Sys2Proof.Machine.execStaAbsx a s
  | .staAbsy a => Sys2Proof.Machine.execStaAbsy a s
  | .staIndx b => Sys2Proof.Machine.execStaIndx b s
  | .staIndy b => Sys2Proof.Machine.execStaIndy b s
  | .stxZp b => Sys2Proof.Machine.execStxZp b s
  | .stxZpy b => Sys2Proof.Machine.execStxZpy b s
  | .stxAbs a => Sys2Proof.Machine.execStxAbs a s
  | .styZp b => Sys2Proof.Machine.execStyZp b s
  | .styZpx b => Sys2Proof.Machine.execStyZpx b s
  | .styAbs a => Sys2Proof.Machine.execStyAbs a s
  | .tax => Sys2Proof.Machine.execTax s
  | .tay => Sys2Proof.Machine.execTay s
  | .txa => Sys2Proof.Machine.execTxa s
  | .tya => Sys2Proof.Machine.execTya s
  | .tsx => Sys2Proof.Machine.execTsx s
  | .txs => Sys2Proof.Machine.execTxs s
  -- 43_arithmetic_logic.md
  | .adcImm v => Sys2Proof.Machine.execAdcImm v s
  | .adcZp b => Sys2Proof.Machine.execAdcZp b s
  | .adcZpx b => Sys2Proof.Machine.execAdcZpx b s
  | .adcAbs a => Sys2Proof.Machine.execAdcAbs a s
  | .adcAbsx a => Sys2Proof.Machine.execAdcAbsx a s
  | .adcAbsy a => Sys2Proof.Machine.execAdcAbsy a s
  | .adcIndx b => Sys2Proof.Machine.execAdcIndx b s
  | .adcIndy b => Sys2Proof.Machine.execAdcIndy b s
  | .sbcImm v => Sys2Proof.Machine.execSbcImm v s
  | .sbcZp b => Sys2Proof.Machine.execSbcZp b s
  | .sbcZpx b => Sys2Proof.Machine.execSbcZpx b s
  | .sbcAbs a => Sys2Proof.Machine.execSbcAbs a s
  | .sbcAbsx a => Sys2Proof.Machine.execSbcAbsx a s
  | .sbcAbsy a => Sys2Proof.Machine.execSbcAbsy a s
  | .sbcIndx b => Sys2Proof.Machine.execSbcIndx b s
  | .sbcIndy b => Sys2Proof.Machine.execSbcIndy b s
  | .andImm v => Sys2Proof.Machine.execAndImm v s
  | .andZp b => Sys2Proof.Machine.execAndZp b s
  | .andZpx b => Sys2Proof.Machine.execAndZpx b s
  | .andAbs a => Sys2Proof.Machine.execAndAbs a s
  | .andAbsx a => Sys2Proof.Machine.execAndAbsx a s
  | .andAbsy a => Sys2Proof.Machine.execAndAbsy a s
  | .andIndx b => Sys2Proof.Machine.execAndIndx b s
  | .andIndy b => Sys2Proof.Machine.execAndIndy b s
  | .oraImm v => Sys2Proof.Machine.execOraImm v s
  | .oraZp b => Sys2Proof.Machine.execOraZp b s
  | .oraZpx b => Sys2Proof.Machine.execOraZpx b s
  | .oraAbs a => Sys2Proof.Machine.execOraAbs a s
  | .oraAbsx a => Sys2Proof.Machine.execOraAbsx a s
  | .oraAbsy a => Sys2Proof.Machine.execOraAbsy a s
  | .oraIndx b => Sys2Proof.Machine.execOraIndx b s
  | .oraIndy b => Sys2Proof.Machine.execOraIndy b s
  | .eorImm v => Sys2Proof.Machine.execEorImm v s
  | .eorZp b => Sys2Proof.Machine.execEorZp b s
  | .eorZpx b => Sys2Proof.Machine.execEorZpx b s
  | .eorAbs a => Sys2Proof.Machine.execEorAbs a s
  | .eorAbsx a => Sys2Proof.Machine.execEorAbsx a s
  | .eorAbsy a => Sys2Proof.Machine.execEorAbsy a s
  | .eorIndx b => Sys2Proof.Machine.execEorIndx b s
  | .eorIndy b => Sys2Proof.Machine.execEorIndy b s
  | .bitZp b => Sys2Proof.Machine.execBitZp b s
  | .bitAbs a => Sys2Proof.Machine.execBitAbs a s
  | .cmpImm v => Sys2Proof.Machine.execCmpImm v s
  | .cmpZp b => Sys2Proof.Machine.execCmpZp b s
  | .cmpZpx b => Sys2Proof.Machine.execCmpZpx b s
  | .cmpAbs a => Sys2Proof.Machine.execCmpAbs a s
  | .cmpAbsx a => Sys2Proof.Machine.execCmpAbsx a s
  | .cmpAbsy a => Sys2Proof.Machine.execCmpAbsy a s
  | .cmpIndx b => Sys2Proof.Machine.execCmpIndx b s
  | .cmpIndy b => Sys2Proof.Machine.execCmpIndy b s
  | .cpxImm v => Sys2Proof.Machine.execCpxImm v s
  | .cpxZp b => Sys2Proof.Machine.execCpxZp b s
  | .cpxAbs a => Sys2Proof.Machine.execCpxAbs a s
  | .cpyImm v => Sys2Proof.Machine.execCpyImm v s
  | .cpyZp b => Sys2Proof.Machine.execCpyZp b s
  | .cpyAbs a => Sys2Proof.Machine.execCpyAbs a s
  | .incZp b => Sys2Proof.Machine.execIncZp b s
  | .incZpx b => Sys2Proof.Machine.execIncZpx b s
  | .incAbs a => Sys2Proof.Machine.execIncAbs a s
  | .incAbsx a => Sys2Proof.Machine.execIncAbsx a s
  | .decZp b => Sys2Proof.Machine.execDecZp b s
  | .decZpx b => Sys2Proof.Machine.execDecZpx b s
  | .decAbs a => Sys2Proof.Machine.execDecAbs a s
  | .decAbsx a => Sys2Proof.Machine.execDecAbsx a s
  | .inx => Sys2Proof.Machine.execInx s
  | .iny => Sys2Proof.Machine.execIny s
  | .dex => Sys2Proof.Machine.execDex s
  | .dey => Sys2Proof.Machine.execDey s
  -- 44_shift_rotate.md
  | .aslAcc => Sys2Proof.Machine.execAslAcc s
  | .aslZp b => Sys2Proof.Machine.execAslZp b s
  | .aslZpx b => Sys2Proof.Machine.execAslZpx b s
  | .aslAbs a => Sys2Proof.Machine.execAslAbs a s
  | .aslAbsx a => Sys2Proof.Machine.execAslAbsx a s
  | .lsrAcc => Sys2Proof.Machine.execLsrAcc s
  | .lsrZp b => Sys2Proof.Machine.execLsrZp b s
  | .lsrZpx b => Sys2Proof.Machine.execLsrZpx b s
  | .lsrAbs a => Sys2Proof.Machine.execLsrAbs a s
  | .lsrAbsx a => Sys2Proof.Machine.execLsrAbsx a s
  | .rolAcc => Sys2Proof.Machine.execRolAcc s
  | .rolZp b => Sys2Proof.Machine.execRolZp b s
  | .rolZpx b => Sys2Proof.Machine.execRolZpx b s
  | .rolAbs a => Sys2Proof.Machine.execRolAbs a s
  | .rolAbsx a => Sys2Proof.Machine.execRolAbsx a s
  | .rorAcc => Sys2Proof.Machine.execRorAcc s
  | .rorZp b => Sys2Proof.Machine.execRorZp b s
  | .rorZpx b => Sys2Proof.Machine.execRorZpx b s
  | .rorAbs a => Sys2Proof.Machine.execRorAbs a s
  | .rorAbsx a => Sys2Proof.Machine.execRorAbsx a s
  -- 45_control_flow.md
  | .bcc d => Sys2Proof.Machine.execBcc d s
  | .bcs d => Sys2Proof.Machine.execBcs d s
  | .beq d => Sys2Proof.Machine.execBeq d s
  | .bne d => Sys2Proof.Machine.execBne d s
  | .bmi d => Sys2Proof.Machine.execBmi d s
  | .bpl d => Sys2Proof.Machine.execBpl d s
  | .bvc d => Sys2Proof.Machine.execBvc d s
  | .bvs d => Sys2Proof.Machine.execBvs d s
  | .jmpAbs a => Sys2Proof.Machine.execJmpAbs a s
  | .jmpInd a => Sys2Proof.Machine.execJmpInd a s
  | .jsr a => Sys2Proof.Machine.execJsr a s
  | .rts => Sys2Proof.Machine.execRts s
  -- 46_stack_flags_system.md
  | .pha => Sys2Proof.Machine.execPha s
  | .php => Sys2Proof.Machine.execPhp s
  | .pla => Sys2Proof.Machine.execPla s
  | .plp => Sys2Proof.Machine.execPlp s
  | .clc => Sys2Proof.Machine.execClc s
  | .sec => Sys2Proof.Machine.execSec s
  | .cli => Sys2Proof.Machine.execCli s
  | .sei => Sys2Proof.Machine.execSei s
  | .cld => Sys2Proof.Machine.execCld s
  | .sed => Sys2Proof.Machine.execSed s
  | .clv => Sys2Proof.Machine.execClv s
  | .nop => Sys2Proof.Machine.execNop s
  | .brk => Sys2Proof.Machine.execBrk s
  | .rti => Sys2Proof.Machine.execRti s

end Sys2Proof.Machine
end

