-- ==== Sys2Proof/Machine/Step.lean ====
section
/-! DEFINITION. The step (47_fetch_decode_step.md R280, R286). -/

namespace Sys2Proof.Machine

/-- One whole instruction: fetch, decode, resolve, execute (R286). A fault of the fetch comes before a decode error,
which comes before any other access (60_exceptions.md R317). -/
def step (s : State) : Host.Outcome State Fault Refusal :=
  if rejects s.cfg s.pc then .fault (.addressingError s.pc s.pc)
  else
    match decodeAt s with
    | none => .fault (.decodeError s.pc s.opcodeAtPC)
    | some i => exec i (fetchUnit s)

/-- `s` with the instruction's bytes written by the host at PC, where the next step fetches (20_memory.md R66): bits
7..0 of `w` at PC, 15..8 at PC + 1, 23..16 at PC + 2; bits above `nbits` are 0. -/
def State.withFetchWord (s : State) (nbits w : Nat) : State :=
  let v := w % 2 ^ nbits
  ((s.store s.pc (BitVec.ofNat 8 v)).store (s.pc + 1) (BitVec.ofNat 8 (v / 256))).store (s.pc + 2)
    (BitVec.ofNat 8 (v / 65536))

end Sys2Proof.Machine
end

