-- ==== Sys2Proof/Machine/Engine.lean ====
section
/-! DEFINITION. What a step shows besides its outcome: the working copy an instruction ends with, and from it the bus
accesses of a step (00_scope.md R7, 20_memory.md R57, R61) and its informational cycle count
(47_fetch_decode_step.md R296). None of it is state. -/

namespace Sys2Proof.Machine

/-- The handler of a mnemonic (30_encoding.md R82, R87). -/
def handler : Mnemonic → Work → Work
  | .LDA => doLda
  | .LDX => doLdx
  | .LDY => doLdy
  | .STA => doSta
  | .STX => doStx
  | .STY => doSty
  | .TAX => doTax
  | .TAY => doTay
  | .TXA => doTxa
  | .TYA => doTya
  | .TSX => doTsx
  | .TXS => doTxs
  | .ADC => doAdc
  | .SBC => doSbc
  | .AND => doAnd
  | .ORA => doOra
  | .EOR => doEor
  | .BIT => doBit
  | .CMP => doCmp
  | .CPX => doCpx
  | .CPY => doCpy
  | .INC => doInc
  | .DEC => doDec
  | .INX => doInx
  | .INY => doIny
  | .DEX => doDex
  | .DEY => doDey
  | .ASL => doAsl
  | .LSR => doLsr
  | .ROL => doRol
  | .ROR => doRor
  | .BCC => doBcc
  | .BCS => doBcs
  | .BEQ => doBeq
  | .BNE => doBne
  | .BMI => doBmi
  | .BPL => doBpl
  | .BVC => doBvc
  | .BVS => doBvs
  | .JMP => doJmp
  | .JSR => doJsr
  | .RTS => doRts
  | .PHA => doPha
  | .PHP => doPhp
  | .PLA => doPla
  | .PLP => doPlp
  | .CLC => doClc
  | .SEC => doSec
  | .CLI => doCli
  | .SEI => doSei
  | .CLD => doCld
  | .SED => doSed
  | .CLV => doClv
  | .NOP => doNop
  | .BRK => doBrk
  | .RTI => doRti

/-- The working copy an instruction ends with, before the commit. `s` is the state after the fetch unit. -/
def work (i : Instr) (s : State) : Work := handler i.mnemonic (resolve i.operand (start s))

/-- The bus accesses of the step that starts in `s`, in order: the opcode read, then those of the instruction
(20_memory.md R61). A step that faults on decoding reads the opcode only (47_fetch_decode_step.md R283). DESIGN CHOICE,
safe (log entry 13): for a step that a rejected access ends (60_exceptions.md R312), the opcode read among them, and for
a refused one, the list goes on as if the bus had accepted; the accesses up to the first rejected one are the step's. -/
def stepAccesses (s : State) : List Access :=
  .read s.pc s.opcodeAtPC ::
    match decodeAt s with
    | none => []
    | some i => (work i (fetchUnit s)).log

/-- `CYCLE_TABLE` with its default (00_scope.md R6): the table's base cycle count of an opcode byte
(70_reset_and_hazards.md R356). -/
def publishedCycles (op : Byte) : Nat :=
  match findRow op with
  | none => 0
  | some r => r.baseCycles

/-- `page_cross_penalty` of an opcode byte (47_fetch_decode_step.md R296). -/
def pageCrossPenalty (op : Byte) : Bool :=
  match findRow op with
  | none => false
  | some r => r.pageCrossPenalty

/-- `step_cycles` of an instruction that ended with this working copy: base, page crossing where the descriptor charges
it, the handler's extra (R296). -/
def cyclesOf (cycleTable : Byte → Nat) (i : Instr) (w : Work) : Nat :=
  cycleTable i.opcode + (pageCrossPenalty i.opcode && w.pageCross).toNat + w.extra

/-- `step_cycles` of the step that starts in `s`, for a table of base counts; `none` where no opcode is mapped. -/
def stepCycles (cycleTable : Byte → Nat) (s : State) : Option Nat :=
  (decodeAt s).map (fun i => cyclesOf cycleTable i (work i (fetchUnit s)))

end Sys2Proof.Machine
end

