-- ==== Sys2Proof/Machine/HostInterface.lean ====
section
/-! DEFINITION. What the host does to the core and sees of it, between steps (00_scope.md R8, R9): the commands `reset`
and `step`, writing memory, the outcome output, the observers. -/

namespace Sys2Proof.Machine

/-- The command `reset` (70_reset_and_hazards.md R340): every register and latch at its construction value, memory
untouched, no bus access. -/
def resetCommand (s : State) : State := { State.reset with mem := s.mem, cfg := s.cfg }

/-- A host write of one byte of memory between two steps (20_memory.md R66). -/
def hostWrite (addr : Word) (v : Byte) (s : State) : State := s.store addr v

/-- Program loading (20_memory.md R66): bytes written at increasing addresses. DESIGN CHOICE, safe (log entry 16): a load
that runs past 0xFFFF goes on at 0x0000. -/
def load : Word → List Byte → State → State
  | _, [], s => s
  | addr, b :: rest, s => load (addr + 1) rest (hostWrite addr b s)

/-- The outcome output of a step (47_fetch_decode_step.md R294, 60_exceptions.md R314). -/
inductive Report where
  | completed (stepCycles : Nat)
  | decodeError (pc : Word) (opcode : Byte)
  | addressingError (pc : Word) (addr : Word)
  /-- The model gives no meaning in this configuration; no outcome of the hardware. -/
  | noMeaning
  deriving DecidableEq, Repr

/-- The fault code of an outcome (60_exceptions.md R314). -/
def Report.code : Report → Option Nat
  | .completed _ => some 0
  | .decodeError _ _ => some 1
  | .addressingError _ _ => some 2
  | .noMeaning => none

/-- The outcome of the step that starts in `s`, with the cycle count of a completed one. -/
def stepReport (cycleTable : Byte → Nat) (s : State) : Report :=
  match step s with
  | .next _ => .completed ((stepCycles cycleTable s).getD 0)
  | .fault (.decodeError pc op) => .decodeError pc op
  | .fault (.addressingError pc addr) => .addressingError pc addr
  | .refused _ => .noMeaning

/-- The state after the command `step`: a faulted step leaves the state it started in (60_exceptions.md R313, R315). -/
def stepCommand (s : State) : State :=
  match step s with
  | .next t => t
  | .fault _ => s
  | .refused _ => s

/-- What the host may do between steps (00_scope.md R9, 47_fetch_decode_step.md R297). -/
inductive Command where
  | reset
  | step
  | write (addr : Word) (v : Byte)
  deriving DecidableEq, Repr

/-- The effect of one command. -/
def Command.perform : Command → State → State
  | .reset, s => resetCommand s
  | .step, s => stepCommand s
  | .write addr v, s => hostWrite addr v s

/-- A sequence of commands; any sequence is legal (47_fetch_decode_step.md R297). -/
def performAll : List Command → State → State
  | [], s => s
  | c :: rest, s => performAll rest (c.perform s)

/-- The mnemonic observer: that of the opcode latch's entry in the table of the machine's profile (60_exceptions.md R326,
30_encoding.md R88). DESIGN CHOICE, safe (log entry 14): none for a byte without an entry, which the latch holds under
`sourceShown` after reset and until a step completes. -/
def observedMnemonic (s : State) : Option Mnemonic :=
  (lookup s.cfg.tableProfile s.opcode).map (fun r => (r.form.fill 0 0).mnemonic)

end Sys2Proof.Machine
end

