-- ==== Sys2Proof/Safety.lean ====
section
/-! DEFINITION. What the claims speak of: the reachable states and their invariant, this hardware's bus, the frames (what
a step leaves alone) said through the reads of one byte and one flag, and the spec's whole-machine tables. -/

namespace Sys2Proof.Machine

/-! ## Reachable states -/

/-- The states the host can bring the core to from construction, with any parameters, by `reset`, `step` and writing
memory (00_scope.md R9, 47_fetch_decode_step.md R297, 70_reset_and_hazards.md R343). -/
inductive Reachable : State → Prop where
  | construct (c : Config) : Reachable { State.reset with cfg := c }
  | perform (c : Command) (s : State) : Reachable s → Reachable (c.perform s)

/-- The invariant of every reachable state: Unused is 1 (10_state.md R30), Break is 0 (R31), memory is in its canonical
form. -/
structure State.Inv (s : State) : Prop where
  unused : s.flag .U = true
  noBreak : s.flag .B = false
  canonical : Memory.wf s.mem

/-! ## Conditions on a state -/

/-- The bus is the 64 KB array of this hardware, which rejects nothing (20_memory.md R53). -/
abbrev OnArrayBus (s : State) : Prop := s.cfg.busRejects = []

/-- ADC and SBC have a meaning in this state: `DECIMAL_MODE` is `binaryOnly`, or D is 0 (43_arithmetic_logic.md R181). -/
abbrev DecimalAllowed (s : State) : Prop := s.cfg.decimalMode = .binaryOnly ∨ s.flag .D = false

/-- The bytes of `i` stand in memory from PC on, at increasing addresses modulo 65536 (30_encoding.md R80). -/
def HoldsAtPC (s : State) (i : Instr) : Prop :=
  ∀ (n : Nat) (b : Byte), (encode i)[n]? = some b → s.byteAt (s.pc + BitVec.ofNat 16 n) = b

/-! ## Outcomes and frames -/

/-- The instruction answers a next state, and that state is as `post` says. -/
abbrev Completes (i : Instr) (s : State) (post : State → Prop) : Prop := ∃ t, exec i s = .next t ∧ post t

/-- The six architectural registers but P (10_state.md R20). -/
def RegistersAre (t : State) (a x y sp : Byte) (pc : Word) : Prop :=
  t.a = a ∧ t.x = x ∧ t.y = y ∧ t.sp = sp ∧ t.pc = pc

/-- The flags `l` names have the values given there; every other flag of P is unchanged. -/
def FlagsBecome (s t : State) (l : List (Flag × Bool)) : Prop := ∀ f, t.flag f = (l.lookup f).getD (s.flag f)

/-- Z and N as `SetNZ(r)` leaves them (40_flag_update_and_alu.md R103). -/
def nz (r : Byte) : List (Flag × Bool) := [(.Z, r == 0#8), (.N, r.getLsbD 7)]

/-- Every byte of memory reads as before. -/
def MemorySame (s t : State) : Prop := ∀ addr : Word, t.byteAt addr = s.byteAt addr

/-- The bytes at the addresses `l` names are those given there (the first entry for an address counts); every other
byte of memory reads as before. -/
def MemoryStored (s t : State) (l : List (Word × Byte)) : Prop :=
  ∀ addr : Word, t.byteAt addr = (l.lookup addr).getD (s.byteAt addr)

/-- The address of the instruction that follows in memory: PC, which is past the opcode, plus the operand bytes. -/
def nextPC (i : Instr) (s : State) : Word := s.pc + BitVec.ofNat 16 i.operand.bytes.length

/-- The effective address the resolver delivers for an operand in a state (41_address_resolver.md R130). -/
def effectiveAddress (o : Operand) (s : State) : Option Word := (resolve o (start s)).ea

/-- The operand byte of a reading instruction (41_address_resolver.md R147): the operand itself in Immediate, A in
Accumulator, else the byte of memory at the effective address. -/
def operandByte (o : Operand) (s : State) : Byte :=
  match o with
  | .imm v => v
  | .acc => s.a
  | o => s.byteAt ((effectiveAddress o s).getD 0x0000)

/-- What the resolver delivers for an operand in a state (41_address_resolver.md R130): the effective address, the
operand byte, the page-crossing signal, and PC past the operand bytes. -/
def ResolverGives (o : Operand) (s : State) (ea : Option Word) (operand : Option Byte) (cross : Bool) : Prop :=
  let w := resolve o (start s)
  w.ea = ea ∧ w.operand = operand ∧ w.pageCross = cross ∧ w.st.pc = s.pc + BitVec.ofNat 16 o.bytes.length

/-- A shift or rotate completes with this result (44_shift_rotate.md R210): in Accumulator mode it goes to A, in a
memory mode back to the effective address; C, Z and N are written from it. -/
def ShiftCompletes (i : Instr) (s : State) (q : Carried) : Prop :=
  if i.mode = .acc then
    Completes i s (fun t => RegistersAre t q.r s.x s.y s.sp (nextPC i s) ∧ FlagsBecome s t ((.C, q.cout) :: nz q.r) ∧
      MemorySame s t)
  else
    ∃ ea, effectiveAddress i.operand s = some ea ∧
      Completes i s (fun t => RegistersAre t s.a s.x s.y s.sp (nextPC i s) ∧
        FlagsBecome s t ((.C, q.cout) :: nz q.r) ∧ MemoryStored s t [(ea, q.r)])

/-- The bus accesses a list names, replayed on a memory: every read moves the byte memory holds at that point
(20_memory.md R51), every write stores its byte (R52), and the result is `after`. -/
def Replays : Memory → List Access → Memory → Prop
  | m, [], after => after = m
  | m, .read a v :: rest, after => Memory.read m a.toNat = v ∧ Replays m rest after
  | m, .write a v :: rest, after => Replays (Memory.write m a.toNat v) rest after

/-- The writes among some accesses. -/
def Access.isWrite : Access → Bool
  | .read _ _ => false
  | .write _ _ => true

/-! ## The spec's tables over all instructions -/

/-- What the table says of a mnemonic: opcode, mode, bytes, base cycles, whether a page crossing adds one (the
"Encodings" line of the instruction's rule). -/
def encodingsOf (m : Mnemonic) : List (Byte × Mode × Nat × Nat × Bool) :=
  OpcodeTable.rows.filterMap (fun r =>
    let i := r.form.fill 0 0
    if i.mnemonic = m then some (r.opcode, i.mode, (encode i).length, r.baseCycles, r.pageCrossPenalty) else none)

/-- The 105 unmapped bytes as 30_encoding.md R90 lists them. -/
def unmappedBytes : List Byte :=
  [0x02, 0x03, 0x04, 0x07, 0x0B, 0x0C, 0x0F, 0x12, 0x13, 0x14, 0x17, 0x1A, 0x1B, 0x1C, 0x1F, 0x22, 0x23, 0x27,
   0x2B, 0x2F, 0x32, 0x33, 0x34, 0x37, 0x3A, 0x3B, 0x3C, 0x3F, 0x42, 0x43, 0x44, 0x47, 0x4B, 0x4F, 0x52, 0x53,
   0x54, 0x57, 0x5A, 0x5B, 0x5C, 0x5F, 0x62, 0x63, 0x64, 0x67, 0x6B, 0x6F, 0x72, 0x73, 0x74, 0x77, 0x7A, 0x7B,
   0x7C, 0x7F, 0x80, 0x82, 0x83, 0x87, 0x89, 0x8B, 0x8F, 0x92, 0x93, 0x97, 0x9B, 0x9C, 0x9E, 0x9F, 0xA3, 0xA7,
   0xAB, 0xAF, 0xB2, 0xB3, 0xB7, 0xBB, 0xBF, 0xC2, 0xC3, 0xC7, 0xCB, 0xCF, 0xD2, 0xD3, 0xD4, 0xD7, 0xDA, 0xDB,
   0xDC, 0xDF, 0xE2, 0xE3, 0xE7, 0xEB, 0xEF, 0xF2, 0xF3, 0xF4, 0xF7, 0xFA, 0xFB, 0xFC, 0xFF]

/-- The flags a mnemonic writes: the table of 10_state.md R29. -/
def flagsWritten : Mnemonic → List Flag
  | .LDA | .LDX | .LDY | .TAX | .TAY | .TXA | .TYA | .TSX | .PLA | .AND | .ORA | .EOR | .INC | .DEC | .INX | .INY
  | .DEX | .DEY => [.N, .Z]
  | .ADC | .SBC => [.N, .V, .Z, .C]
  | .CMP | .CPX | .CPY => [.N, .Z, .C]
  | .ASL | .LSR | .ROL | .ROR => [.N, .Z, .C]
  | .BIT => [.N, .V, .Z]
  | .CLC | .SEC => [.C]
  | .CLI | .SEI => [.I]
  | .CLD | .SED => [.D]
  | .CLV => [.V]
  | .BRK => [.I]
  | .PLP | .RTI => [.N, .V, .D, .I, .Z, .C]
  | .STA | .STX | .STY | .TXS | .PHA | .PHP | .JMP | .JSR | .RTS | .NOP | .BCC | .BCS | .BEQ | .BNE | .BMI | .BPL
  | .BVC | .BVS => []

/-- The instruction may write A (10_state.md R21). -/
def writesA (i : Instr) : Bool :=
  i.mnemonic ∈ [.LDA, .ADC, .SBC, .AND, .ORA, .EOR, .PLA, .TXA, .TYA] ||
    (i.mnemonic ∈ [.ASL, .LSR, .ROL, .ROR] && i.mode == .acc)

/-- The instruction may write X (10_state.md R22). -/
def writesX (i : Instr) : Bool := i.mnemonic ∈ [.LDX, .TAX, .TSX, .INX, .DEX]

/-- The instruction may write Y (10_state.md R22). -/
def writesY (i : Instr) : Bool := i.mnemonic ∈ [.LDY, .TAY, .INY, .DEY]

/-- The instruction may write SP: it pushes or pulls, or is TXS (10_state.md R23). -/
def writesSP (i : Instr) : Bool := i.mnemonic ∈ [.PHA, .PHP, .PLA, .PLP, .JSR, .RTS, .BRK, .RTI, .TXS]

/-- The instruction is a control transfer (10_state.md R24). -/
def transfersControl (i : Instr) : Bool :=
  i.mnemonic ∈ [.BCC, .BCS, .BEQ, .BNE, .BMI, .BPL, .BVC, .BVS, .JMP, .JSR, .RTS, .RTI, .BRK]

/-- The instruction may write memory: write-class, read-modify-write in a memory mode, or a push (20_memory.md R67). -/
def writesMemory (i : Instr) : Bool :=
  i.mnemonic ∈ [.STA, .STX, .STY, .INC, .DEC, .PHA, .PHP, .JSR, .BRK] ||
    (i.mnemonic ∈ [.ASL, .LSR, .ROL, .ROR] && i.mode != .acc)

/-- The condition of a branch in a state (45_control_flow.md R221 to R228); `none` for other instructions. -/
def branchCondition (m : Mnemonic) (s : State) : Option Bool :=
  match m with
  | .BCC => some (!s.flag .C)
  | .BCS => some (s.flag .C)
  | .BEQ => some (s.flag .Z)
  | .BNE => some (!s.flag .Z)
  | .BMI => some (s.flag .N)
  | .BPL => some (!s.flag .N)
  | .BVC => some (!s.flag .V)
  | .BVS => some (s.flag .V)
  | _ => none

/-- Base cycles by instruction class and mode: the table of 70_reset_and_hazards.md R356. -/
def cyclesByClass (m : Mnemonic) (mode : Mode) : Option Nat :=
  if m ∈ [.LDA, .LDX, .LDY, .ADC, .SBC, .AND, .ORA, .EOR, .CMP, .CPX, .CPY, .BIT] then
    [(.imm, 2), (.zp, 3), (.zpx, 4), (.zpy, 4), (.abs, 4), (.absx, 4), (.absy, 4), (.indx, 6), (.indy, 5)].lookup mode
  else if m ∈ [.STA, .STX, .STY] then
    [(.zp, 3), (.zpx, 4), (.zpy, 4), (.abs, 4), (.absx, 5), (.absy, 5), (.indx, 6), (.indy, 6)].lookup mode
  else if m ∈ [.ASL, .LSR, .ROL, .ROR, .INC, .DEC] then
    [(.acc, 2), (.zp, 5), (.zpx, 6), (.abs, 6), (.absx, 7)].lookup mode
  else if m ∈ [.BCC, .BCS, .BEQ, .BNE, .BMI, .BPL, .BVC, .BVS] then some 2
  else if m = .JMP then [(.abs, 3), (.ind, 5)].lookup mode
  else if m ∈ [.JSR, .RTS, .RTI] then some 6
  else if m = .BRK then some 7
  else if m ∈ [.PHA, .PHP] then some 3
  else if m ∈ [.PLA, .PLP] then some 4
  else some 2

/-- A page crossing adds a cycle: the read-class instructions named in 47_fetch_decode_step.md R296, in the modes
Absolute,X, Absolute,Y and Indirect Indexed (Y). -/
def chargesPageCross (i : Instr) : Bool :=
  i.mnemonic ∈ [.LDA, .LDX, .LDY, .ADC, .SBC, .AND, .ORA, .EOR, .CMP] && i.mode ∈ [.absx, .absy, .indy]

end Sys2Proof.Machine
end

