-- ==== Sys2Proof/Certificates/Slice0/Obligations.lean ====
section
/-! DEFINITION. The statements for the provers. In statements about `exec` the state `s` is the one the fetch unit leaves
(log entry 2): PC is past the opcode byte. -/

open Sys2Proof Sys2Proof.Machine

/-- Decode and encode agree (30_encoding.md R80, R87): no bit of an operand is dropped. -/
def Obligations.DecodeOfEncodeIsTheInstruction : Prop :=
  ∀ (profile : TableProfile) (i : Instr) (rest : List Byte), i.wellFormed profile = true →
    decode profile (encode i ++ rest) = .instr i rest

/-- The other direction of the round trip (30_encoding.md R80, R86, R88). -/
def Obligations.EncodeOfDecodeIsTheBytes : Prop :=
  ∀ (profile : TableProfile) (bs : List Byte) (i : Instr) (rest : List Byte), decode profile bs = .instr i rest →
    i.wellFormed profile = true ∧ bs = encode i ++ rest

/-- 30_encoding.md R88, with the bytes of R90. -/
def Obligations.UnmappedBytesAreRejectedByName : Prop :=
  (∀ (op : Byte) (rest : List Byte), op ∈ unmappedBytes → decode .full (op :: rest) = .unmapped op) ∧
  (∀ op : Byte, op ∉ unmappedBytes → (lookup .full op).isSome = true) ∧
  unmappedBytes.length = 105 ∧ unmappedBytes.Nodup ∧ OpcodeTable.rows.length = 151 ∧
  (∀ (op : Byte) (rest : List Byte), op ∉ [0xA9, 0xA5, 0xB5, 0xAD, 0xA1] →
    decode .sourceShown (op :: rest) = .unmapped op) ∧
  (∀ op : Byte, op ∈ [0xA9, 0xA5, 0xB5, 0xAD, 0xA1] →
    lookup .sourceShown op = lookup .full op ∧ (lookup .full op).isSome = true)

/-- 30_encoding.md R80, 41_address_resolver.md R131. -/
def Obligations.InstructionLengthFollowsTheMode : Prop :=
  ∀ i : Instr, (encode i).head? = some i.opcode ∧ (encode i).length = 1 +
    (match i.mode with
      | .imp | .acc => 0
      | .imm | .zp | .zpx | .zpy | .indx | .indy | .rel => 1
      | .abs | .absx | .absy | .ind => 2)

/-- A sanity check against the matrix (30_encoding.md R86). -/
def Obligations.WordsOfTheMatrixDecode : Prop :=
  decode .full [0x00] = .instr .brk [] ∧
  decode .full [0x20, 0x34, 0x12] = .instr (.jsr 0x1234) [] ∧
  decode .full [0x6C, 0xFF, 0x02] = .instr (.jmpInd 0x02FF) [] ∧
  decode .full [0x81, 0x10] = .instr (.staIndx 0x10) [] ∧
  decode .full [0x96, 0x10] = .instr (.stxZpy 0x10) [] ∧
  decode .full [0xBE, 0x10, 0x03] = .instr (.ldxAbsy 0x0310) [] ∧
  decode .full [0xB1, 0x10] = .instr (.ldaIndy 0x10) [] ∧
  decode .full [0xE9, 0x10] = .instr (.sbcImm 0x10) [] ∧
  decode .full [0x0A] = .instr .aslAcc [] ∧
  decode .full [0xFE, 0xF0, 0x12] = .instr (.incAbsx 0x12F0) [] ∧
  decode .full [0xD0, 0xFB] = .instr (.bne 0xFB) [] ∧
  decode .full [0x02] = .unmapped 0x02

/-- 47_fetch_decode_step.md R281, R286. That `exec` runs on the state after the fetch unit is the model's choice (log entry 2). -/
def Obligations.StepRunsTheDecodedInstruction : Prop :=
  ∀ (s : State) (i : Instr), rejects s.cfg s.pc = false →
    (decodeAt s = some i → step s = exec i (fetchUnit s)) ∧
    (i.wellFormed s.cfg.tableProfile = true → HoldsAtPC s i → decodeAt s = some i) ∧
    fetchUnit s = { s with pc := s.pc + 1, opcode := s.byteAt s.pc, dataBus := s.byteAt s.pc }

/-- 47_fetch_decode_step.md R283. -/
def Obligations.UnmappedOpcodeIsADecodeError : Prop :=
  ∀ (s : State), rejects s.cfg s.pc = false → lookup s.cfg.tableProfile (s.byteAt s.pc) = none →
    step s = .fault (.decodeError s.pc (s.byteAt s.pc)) ∧ stepCommand s = s ∧
    stepAccesses s = [.read s.pc (s.byteAt s.pc)]

/-- 47_fetch_decode_step.md R295, 60_exceptions.md R312. -/
def Obligations.EveryStepOnTheArrayAnswers : Prop :=
  ∀ s : State, OnArrayBus s → s.cfg.decimalMode = .binaryOnly →
    ((lookup s.cfg.tableProfile (s.byteAt s.pc)).isSome = true ∧ ∃ t, step s = .next t) ∨
    (lookup s.cfg.tableProfile (s.byteAt s.pc) = none ∧ step s = .fault (.decodeError s.pc (s.byteAt s.pc)))

/-- 60_exceptions.md R312, R313, R317. What `stepAccesses` lists from the first rejected access on is the model's choice
(log entry 13); the statement uses the list up to that access only. -/
def Obligations.RejectedAccessIsAnAddressingError : Prop :=
  ∀ s : State, s.cfg.decimalMode = .binaryOnly →
    (∀ x, (stepAccesses s).find? (fun y => rejects s.cfg y.addr) = some x →
      step s = .fault (.addressingError s.pc x.addr) ∧ stepCommand s = s) ∧
    ((∀ x ∈ stepAccesses s, rejects s.cfg x.addr = false) →
      ∀ (pc addr : Word), step s ≠ .fault (.addressingError pc addr))

/-- 20_memory.md R51, R52, R57, R60. -/
def Obligations.StepAccessesReplayOnMemory : Prop :=
  ∀ s t : State, step s = .next t →
    Replays s.mem (stepAccesses s) t.mem ∧ (stepAccesses s).head? = some (.read s.pc (s.byteAt s.pc))

/-- 10_state.md R35. -/
def Obligations.LatchesAfterAStep : Prop :=
  (∀ (s t : State) (i : Instr), decodeAt s = some i → step s = .next t →
    t.opcode = s.byteAt s.pc ∧
    (∃ x, (stepAccesses s).getLast? = some x ∧ t.dataBus = x.byte) ∧
    t.addrBus = (effectiveAddress i.operand (fetchUnit s)).getD s.addrBus ∧
    (effectiveAddress i.operand (fetchUnit s) = none ↔ i.mode ∈ [.imm, .acc, .imp])) ∧
  (∀ (s : State) (f : Fault), step s = .fault f → stepCommand s = s) ∧
  (∀ s : State, (resetCommand s).opcode = 0x00 ∧ (resetCommand s).dataBus = 0x00 ∧ (resetCommand s).addrBus = 0x0000)

/-- 10_state.md R30, R31, R39. That memory is a canonical list is the model's choice (log entry 8). -/
def Obligations.InvariantHoldsAtReset : Prop :=
  State.reset.Inv

/-- 10_state.md R30, R31. That memory is a canonical list is the model's choice (log entry 8), as are the parameters in
State (log entry 1). -/
def Obligations.InvariantIsKeptByEveryStep : Prop :=
  ∀ s t : State, s.Inv → step s = .next t → t.Inv ∧ t.cfg = s.cfg

/-- 10_state.md R30 and, in the invariant, R31. That memory is a canonical list is the model's choice (log entry 8), as is
the form of the host's commands (log entry 10). -/
def Obligations.ReachableStatesKeepUnusedSet : Prop :=
  (∀ s : State, Reachable s → s.Inv ∧ s.p.getLsbD 5 = true) ∧
  (∀ (c : Bool) (p : Byte), setFlag .U c p = p) ∧
  (∀ v p : Byte, (setPulledFlags v p).getLsbD 5 = p.getLsbD 5)

/-- 70_reset_and_hazards.md R340, with the zero memory of construction (R343). -/
def Obligations.ResetCommandGivesTheConstructionState : Prop :=
  (∀ s : State, RegistersAre (resetCommand s) 0x00 0x00 0x00 0x00 0x0000 ∧ (resetCommand s).p = 0x20 ∧
    (resetCommand s).opcode = 0x00 ∧ (resetCommand s).dataBus = 0x00 ∧ (resetCommand s).addrBus = 0x0000 ∧
    (resetCommand s).mem = s.mem ∧ resetCommand (resetCommand s) = resetCommand s) ∧
  (∀ s u : State, s.cfg = u.cfg → (resetCommand s).setMem u.mem = resetCommand u) ∧
  resetCommand State.reset = State.reset ∧ (∀ addr : Word, State.reset.byteAt addr = 0x00)

/-- 20_memory.md R51, R52, R66. That a load which runs past 0xFFFF goes on at 0x0000 is the model's choice (log entry
16). -/
def Obligations.LoadedProgramReadsBack : Prop :=
  ∀ (bytes : List Byte) (addr : Word) (s : State), Memory.wf s.mem → bytes.length ≤ 65536 →
    (∀ (n : Nat) (b : Byte), bytes[n]? = some b → (load addr bytes s).byteAt (addr + BitVec.ofNat 16 n) = b) ∧
    (∀ c : Word, (∀ n < bytes.length, c ≠ addr + BitVec.ofNat 16 n) → (load addr bytes s).byteAt c = s.byteAt c) ∧
    Memory.wf (load addr bytes s).mem ∧ (load addr bytes s).setMem s.mem = s

/-- The model's list form of the array of 10_state.md R38 (log entry 8). -/
def Obligations.EqualMemoriesAreEqualData : Prop :=
  ∀ m n : Memory, Memory.wf m → Memory.wf n → (∀ addr : Word, Memory.read m addr.toNat = Memory.read n addr.toNat) →
    m = n

/-- 40_flag_update_and_alu.md R100, R101. -/
def Obligations.FlagUpdaterWritesOneBit : Prop :=
  (∀ (f : Flag) (c : Bool) (p : Byte), f ≠ .U →
    setFlag f c p = if c then p ||| (1#8 <<< f.bit) else p &&& ~~~(1#8 <<< f.bit)) ∧
  (∀ (c : Bool) (p : Byte), setFlag .U c p = p) ∧
  (∀ (f : Flag) (c : Bool) (p : Byte), setFlag f c (setFlag f c p) = setFlag f c p) ∧
  (∀ (f g : Flag) (c d : Bool) (p : Byte), f ≠ g → setFlag f c (setFlag g d p) = setFlag g d (setFlag f c p)) ∧
  [Flag.C, Flag.Z, Flag.I, Flag.D, Flag.B, Flag.U, Flag.V, Flag.N].map Flag.bit = [0, 1, 2, 3, 4, 5, 6, 7]

/-- The "not written" entries of the table of 10_state.md R29. -/
def Obligations.FlagsNotListedAreUnchanged : Prop :=
  ∀ (i : Instr) (s t : State) (f : Flag), exec i s = .next t → f ∉ flagsWritten i.mnemonic → t.flag f = s.flag f

/-- 10_state.md R32, R33: nothing but PHP and BRK reads I or D. -/
def Obligations.InterruptDisableAndDecimalArePlainStorage : Prop :=
  ∀ (i : Instr) (s t : State) (f : Flag) (c : Bool), i.mnemonic ≠ .PHP → i.mnemonic ≠ .BRK →
    (f = .I ∨ (f = .D ∧ s.cfg.decimalMode = .binaryOnly)) → exec i s = .next t →
    ∃ u, exec i (s.setP (setFlag f c s.p)) = .next u ∧ u.setP t.p = t ∧ ∀ g, g ≠ f → u.flag g = t.flag g

/-- The writers of 10_state.md R21, R22, R23. -/
def Obligations.RegistersChangeOnlyUnderTheirWriters : Prop :=
  ∀ (i : Instr) (s t : State), exec i s = .next t →
    (writesA i = false → t.a = s.a) ∧ (writesX i = false → t.x = s.x) ∧ (writesY i = false → t.y = s.y) ∧
    (writesSP i = false → t.sp = s.sp) ∧ t.opcode = s.opcode ∧ t.cfg = s.cfg

/-- 10_state.md R24, 41_address_resolver.md R131. -/
def Obligations.ProgramCounterAdvancesPastTheInstruction : Prop :=
  ∀ (i : Instr) (s t : State), exec i s = .next t → transfersControl i = false → t.pc = nextPC i s

/-- 20_memory.md R67, for memory in any form. -/
def Obligations.MemoryChangesOnlyWhereStored : Prop :=
  ∀ (i : Instr) (s t : State), exec i s = .next t →
    (writesMemory i = false → MemorySame s t) ∧
    (i.mnemonic ∈ [.STA, .STX, .STY, .INC, .DEC, .ASL, .LSR, .ROL, .ROR] →
      ∀ ea, effectiveAddress i.operand s = some ea → ∀ addr, addr ≠ ea → t.byteAt addr = s.byteAt addr) ∧
    (i.mnemonic ∈ [.PHA, .PHP] → ∀ addr, addr ≠ stackAddr s.sp → t.byteAt addr = s.byteAt addr) ∧
    (i.mnemonic = .JSR → ∀ addr, addr ≠ stackAddr s.sp → addr ≠ stackAddr (s.sp - 1) →
      t.byteAt addr = s.byteAt addr) ∧
    (i.mnemonic = .BRK → ∀ addr, addr ≠ stackAddr s.sp → addr ≠ stackAddr (s.sp - 1) →
      addr ≠ stackAddr (s.sp - 2) → t.byteAt addr = s.byteAt addr)

/-- 40_flag_update_and_alu.md R105. -/
def Obligations.AdditionCarriesAndOverflows : Prop :=
  (∀ (a m : Byte) (cin : Bool),
    let q := aluAdd a m cin
    q.r.toNat = (a.toNat + m.toNat + cin.toNat) % 256 ∧
    (q.cout = true ↔ a.toNat + m.toNat + cin.toNat > 255) ∧
    (q.vout = true ↔ a.toInt + m.toInt + (cin.toNat : Int) < -128 ∨ 127 < a.toInt + m.toInt + (cin.toNat : Int)) ∧
    (q.vout = true ↔ a.getLsbD 7 = m.getLsbD 7 ∧ q.r.getLsbD 7 ≠ a.getLsbD 7) ∧
    (q.vout = true ↔ (a ^^^ q.r) &&& (m ^^^ q.r) &&& 0x80 ≠ 0#8)) ∧
  aluAdd 0xFF 0x01 false = ⟨0x00, true, false⟩ ∧ aluAdd 0x7F 0x01 false = ⟨0x80, false, true⟩ ∧
  aluAdd 0x80 0x80 false = ⟨0x00, true, true⟩ ∧ aluAdd 0x7F 0x00 true = ⟨0x80, false, true⟩ ∧
  aluAdd 0xFF 0xFF true = ⟨0xFF, true, false⟩ ∧ aluAdd 0x00 0x00 false = ⟨0x00, false, false⟩

/-- 40_flag_update_and_alu.md R106, R107. -/
def Obligations.SubtractionBorrowsAndCompareOrders : Prop :=
  (∀ (a m : Byte) (cin : Bool),
    let q := aluSub a m cin
    let borrow : Int := 1 - (cin.toNat : Int)
    q = aluAdd a (m ^^^ 0xFF) cin ∧
    (q.r.toNat : Int) = ((a.toNat : Int) - (m.toNat : Int) - borrow) % 256 ∧
    (q.cout = true ↔ 0 ≤ (a.toNat : Int) - (m.toNat : Int) - borrow) ∧
    (q.vout = true ↔ a.toInt - m.toInt - borrow < -128 ∨ 127 < a.toInt - m.toInt - borrow) ∧
    (q.vout = true ↔ (a ^^^ m) &&& (a ^^^ q.r) &&& 0x80 ≠ 0#8)) ∧
  (∀ a m : Byte,
    let q := aluCmp a m
    q.r = (aluSub a m true).r ∧ q.cout = (aluSub a m true).cout ∧ q.r = a - m ∧
    (q.cout = true ↔ m.toNat ≤ a.toNat) ∧ (q.r = 0#8 ↔ a = m)) ∧
  aluSub 0x00 0x01 true = ⟨0xFF, false, false⟩ ∧ aluSub 0x80 0x01 true = ⟨0x7F, true, true⟩ ∧
  aluSub 0x7F 0xFF true = ⟨0x80, false, true⟩ ∧ aluSub 0x05 0x05 true = ⟨0x00, true, false⟩ ∧
  aluSub 0x05 0x05 false = ⟨0xFF, false, false⟩ ∧ aluSub 0x00 0x00 false = ⟨0xFF, false, false⟩ ∧
  aluCmp 0x00 0x01 = ⟨0xFF, false⟩ ∧ aluCmp 0x80 0x7F = ⟨0x01, true⟩ ∧ aluCmp 0x7F 0x80 = ⟨0xFF, false⟩ ∧
  aluCmp 0x42 0x42 = ⟨0x00, true⟩

/-- 40_flag_update_and_alu.md R111 to R114. -/
def Obligations.ShiftsAndRotatesMoveOneBit : Prop :=
  (∀ (v : Byte) (k : Nat), k < 8 →
    (aluAsl v).r.getLsbD k = (if k = 0 then false else v.getLsbD (k - 1)) ∧
    (aluLsr v).r.getLsbD k = (if k = 7 then false else v.getLsbD (k + 1)) ∧
    ∀ c : Bool, (aluRol v c).r.getLsbD k = (if k = 0 then c else v.getLsbD (k - 1)) ∧
      (aluRor v c).r.getLsbD k = (if k = 7 then c else v.getLsbD (k + 1))) ∧
  (∀ (v : Byte) (c : Bool), (aluAsl v).cout = v.getLsbD 7 ∧ (aluLsr v).cout = v.getLsbD 0 ∧
    (aluRol v c).cout = v.getLsbD 7 ∧ (aluRor v c).cout = v.getLsbD 0) ∧
  aluAsl 0x80 = ⟨0x00, true⟩ ∧ aluAsl 0x41 = ⟨0x82, false⟩ ∧ aluLsr 0x01 = ⟨0x00, true⟩ ∧
  aluLsr 0x82 = ⟨0x41, false⟩ ∧ aluRol 0x80 false = ⟨0x00, true⟩ ∧ aluRol 0x80 true = ⟨0x01, true⟩ ∧
  aluRol 0x40 true = ⟨0x81, false⟩ ∧ aluRor 0x01 false = ⟨0x00, true⟩ ∧ aluRor 0x01 true = ⟨0x80, true⟩ ∧
  aluRor 0x02 true = ⟨0x81, false⟩

/-- 41_address_resolver.md R133 to R136, R139. -/
def Obligations.PlainModesResolve : Prop :=
  ∀ (s : State) (b : Byte) (a : Word),
    ResolverGives .imp s none none false ∧ (resolve .imp (start s)).st = s ∧ (resolve .imp (start s)).log = [] ∧
    ResolverGives .acc s none none false ∧ (resolve .acc (start s)).st = s ∧ (resolve .acc (start s)).log = [] ∧
    ResolverGives (.imm b) s none (some b) false ∧
    (∃ ea : Word, ea.toNat = b.toNat ∧ ResolverGives (.zp b) s (some ea) none false) ∧
    ResolverGives (.abs a) s (some a) none false ∧
    (resolve (.abs a) (start s)).log = [.read s.pc (lo a), .read (s.pc + 1) (hi a)]

/-- 41_address_resolver.md R137, R138. -/
def Obligations.ZeroPageIndexedWrapsInPageZero : Prop :=
  ∀ (s : State) (b : Byte),
    (∃ ea : Word, ea.toNat = (b.toNat + s.x.toNat) % 256 ∧ ResolverGives (.zpx b) s (some ea) none false) ∧
    (∃ ea : Word, ea.toNat = (b.toNat + s.y.toNat) % 256 ∧ ResolverGives (.zpy b) s (some ea) none false) ∧
    (s.x = 0x02 → effectiveAddress (.zpx 0xFF) s = some 0x0001) ∧
    (s.y = 0x20 → effectiveAddress (.zpy 0xF0) s = some 0x0010)

/-- 41_address_resolver.md R140, R141. -/
def Obligations.AbsoluteIndexedWrapsAndSignals : Prop :=
  ∀ (s : State) (a : Word),
    (∃ ea : Word, ea.toNat = (a.toNat + s.x.toNat) % 65536 ∧
      ResolverGives (.absx a) s (some ea) none (decide (ea.toNat / 256 ≠ a.toNat / 256))) ∧
    (∃ ea : Word, ea.toNat = (a.toNat + s.y.toNat) % 65536 ∧
      ResolverGives (.absy a) s (some ea) none (decide (ea.toNat / 256 ≠ a.toNat / 256)))

/-- 41_address_resolver.md R142, R143, R144. -/
def Obligations.PointerModesReadTheirPointers : Prop :=
  ∀ (s : State) (a : Word) (b : Byte),
    (∃ ea second : Word, hi ea = s.byteAt second ∧ lo ea = s.byteAt a ∧
      second.toNat = (if s.cfg.jmpIndPageWrap then a.toNat / 256 * 256 + (a.toNat + 1) % 256
        else (a.toNat + 1) % 65536) ∧
      ResolverGives (.ind a) s (some ea) none false) ∧
    (∃ ea first second : Word, first.toNat = (b.toNat + s.x.toNat) % 256 ∧
      second.toNat = (b.toNat + s.x.toNat + 1) % 256 ∧ lo ea = s.byteAt first ∧ hi ea = s.byteAt second ∧
      ResolverGives (.indx b) s (some ea) none false) ∧
    (∃ ea base first second : Word, first.toNat = b.toNat ∧ second.toNat = (b.toNat + 1) % 256 ∧
      lo base = s.byteAt first ∧ hi base = s.byteAt second ∧ ea.toNat = (base.toNat + s.y.toNat) % 65536 ∧
      ResolverGives (.indy b) s (some ea) none (decide (ea.toNat / 256 ≠ base.toNat / 256)))

/-- 41_address_resolver.md R145. -/
def Obligations.RelativeTargetsFromTheNextInstruction : Prop :=
  ∀ (s : State) (d : Byte), ∃ next ea : Word, next.toNat = (s.pc.toNat + 1) % 65536 ∧
    (ea.toNat : Int) = ((next.toNat : Int) + d.toInt) % 65536 ∧
    ResolverGives (.rel d) s (some ea) none (decide (ea.toNat / 256 ≠ next.toNat / 256))

/-- 41_address_resolver.md R146, R148, with the addresses of R142 to R144 and the bases of R140, R141, R144. The data latch
follows every access (10_state.md R35). -/
def Obligations.ResolverWritesOnlyThePC : Prop :=
  ∀ (o : Operand) (s : State),
    let w := resolve o (start s)
    let read := fun addr : Word => Access.read addr (s.byteAt addr)
    (w.st.setPC s.pc).setDataBus s.dataBus = s ∧
    w.log = (match o with
      | .imp | .acc => []
      | .imm b | .zp b | .zpx b | .zpy b | .rel b => [.read s.pc b]
      | .abs a | .absx a | .absy a => [.read s.pc (lo a), .read (s.pc + 1) (hi a)]
      | .ind a => [.read s.pc (lo a), .read (s.pc + 1) (hi a), read a,
          read (if s.cfg.jmpIndPageWrap then join (hi a) (lo a + 1) else a + 1)]
      | .indx b => [.read s.pc b, read (zext16 (b + s.x)), read (zext16 (b + s.x + 1))]
      | .indy b => [.read s.pc b, read (zext16 b), read (zext16 (b + 1))]) ∧
    (o.mode ∉ [.absx, .absy, .indy, .rel] → w.pageCross = false) ∧
    (∀ base : Word,
      (match o with
        | .absx a | .absy a => base = a
        | .indy b => base = join (s.byteAt (zext16 (b + 1))) (s.byteAt (zext16 b))
        | .rel _ => base = s.pc + 1
        | .imp | .acc | .imm _ | .zp _ | .zpx _ | .zpy _ | .abs _ | .ind _ | .indx _ => False) →
      ∃ ea, w.ea = some ea ∧ w.pageCross = (hi ea != hi base))

/-- 70_reset_and_hazards.md R356: two views of one table. -/
def Obligations.BaseCyclesFollowTheClassTable : Prop :=
  ∀ i : Instr, cyclesByClass i.mnemonic i.mode = some (publishedCycles i.opcode) ∧
    pageCrossPenalty i.opcode = chargesPageCross i

/-- 47_fetch_decode_step.md R296. -/
def Obligations.StepCyclesAddPageAndBranchExtras : Prop :=
  ∀ (table : Byte → Nat) (s : State) (i : Instr), decodeAt s = some i →
    let cross := (resolve i.operand (start (fetchUnit s))).pageCross
    stepCycles table s = some (table i.opcode + (if chargesPageCross i ∧ cross then 1 else 0) +
      (if branchCondition i.mnemonic (fetchUnit s) = some true then (if cross then 2 else 1) else 0))

/-- 42_load_store_transfer.md R161. -/
def Obligations.LdaLoadsTheOperand : Prop :=
  encodingsOf .LDA = [(0xA1, .indx, 2, 6, false), (0xA5, .zp, 2, 3, false), (0xA9, .imm, 2, 2, false),
      (0xAD, .abs, 3, 4, false), (0xB1, .indy, 2, 5, true), (0xB5, .zpx, 2, 4, false),
      (0xB9, .absy, 3, 4, true), (0xBD, .absx, 3, 4, true)] ∧
  ∀ (i : Instr) (s : State), i.mnemonic = .LDA → OnArrayBus s →
    let m := operandByte i.operand s
    Completes i s (fun t => RegistersAre t m s.x s.y s.sp (nextPC i s) ∧ FlagsBecome s t (nz m) ∧ MemorySame s t)

/-- 42_load_store_transfer.md R162, R163. -/
def Obligations.LdxAndLdyLoadTheOperand : Prop :=
  encodingsOf .LDX = [(0xA2, .imm, 2, 2, false), (0xA6, .zp, 2, 3, false), (0xAE, .abs, 3, 4, false),
      (0xB6, .zpy, 2, 4, false), (0xBE, .absy, 3, 4, true)] ∧
  encodingsOf .LDY = [(0xA0, .imm, 2, 2, false), (0xA4, .zp, 2, 3, false), (0xAC, .abs, 3, 4, false),
      (0xB4, .zpx, 2, 4, false), (0xBC, .absx, 3, 4, true)] ∧
  ∀ (i : Instr) (s : State), OnArrayBus s →
    let m := operandByte i.operand s
    (i.mnemonic = .LDX →
      Completes i s (fun t => RegistersAre t s.a m s.y s.sp (nextPC i s) ∧ FlagsBecome s t (nz m) ∧ MemorySame s t)) ∧
    (i.mnemonic = .LDY →
      Completes i s (fun t => RegistersAre t s.a s.x m s.sp (nextPC i s) ∧ FlagsBecome s t (nz m) ∧ MemorySame s t))

/-- 42_load_store_transfer.md R164, R165, R166. -/
def Obligations.StoresWriteTheRegisterAtTheAddress : Prop :=
  encodingsOf .STA = [(0x81, .indx, 2, 6, false), (0x85, .zp, 2, 3, false), (0x8D, .abs, 3, 4, false),
      (0x91, .indy, 2, 6, false), (0x95, .zpx, 2, 4, false), (0x99, .absy, 3, 5, false),
      (0x9D, .absx, 3, 5, false)] ∧
  encodingsOf .STX = [(0x86, .zp, 2, 3, false), (0x8E, .abs, 3, 4, false), (0x96, .zpy, 2, 4, false)] ∧
  encodingsOf .STY = [(0x84, .zp, 2, 3, false), (0x8C, .abs, 3, 4, false), (0x94, .zpx, 2, 4, false)] ∧
  ∀ (i : Instr) (s : State) (v : Byte), OnArrayBus s → Memory.wf s.mem →
    ((i.mnemonic = .STA ∧ v = s.a) ∨ (i.mnemonic = .STX ∧ v = s.x) ∨ (i.mnemonic = .STY ∧ v = s.y)) →
    ∃ ea, effectiveAddress i.operand s = some ea ∧
      (work i s).log = (resolve i.operand (start s)).log ++ [.write ea v] ∧
      Completes i s (fun t => RegistersAre t s.a s.x s.y s.sp (nextPC i s) ∧ t.p = s.p ∧ MemoryStored s t [(ea, v)])

/-- 42_load_store_transfer.md R167 to R172. -/
def Obligations.TransfersCopyARegister : Prop :=
  encodingsOf .TAX = [(0xAA, .imp, 1, 2, false)] ∧
  encodingsOf .TAY = [(0xA8, .imp, 1, 2, false)] ∧
  encodingsOf .TXA = [(0x8A, .imp, 1, 2, false)] ∧
  encodingsOf .TYA = [(0x98, .imp, 1, 2, false)] ∧
  encodingsOf .TSX = [(0xBA, .imp, 1, 2, false)] ∧
  encodingsOf .TXS = [(0x9A, .imp, 1, 2, false)] ∧
  ∀ (s : State), OnArrayBus s →
    Completes .tax s (fun t => RegistersAre t s.a s.a s.y s.sp s.pc ∧ FlagsBecome s t (nz s.a) ∧ MemorySame s t) ∧
    Completes .tay s (fun t => RegistersAre t s.a s.x s.a s.sp s.pc ∧ FlagsBecome s t (nz s.a) ∧ MemorySame s t) ∧
    Completes .txa s (fun t => RegistersAre t s.x s.x s.y s.sp s.pc ∧ FlagsBecome s t (nz s.x) ∧ MemorySame s t) ∧
    Completes .tya s (fun t => RegistersAre t s.y s.x s.y s.sp s.pc ∧ FlagsBecome s t (nz s.y) ∧ MemorySame s t) ∧
    Completes .tsx s (fun t => RegistersAre t s.a s.sp s.y s.sp s.pc ∧ FlagsBecome s t (nz s.sp) ∧ MemorySame s t) ∧
    Completes .txs s (fun t => RegistersAre t s.a s.x s.y s.x s.pc ∧ t.p = s.p ∧ MemorySame s t)

/-- 43_arithmetic_logic.md R181, R182, where they give a result; elsewhere see `Obligations.RefusalIsDecimalModeOnly`. -/
def Obligations.AdcAndSbcAccumulateWithCarry : Prop :=
  encodingsOf .ADC = [(0x61, .indx, 2, 6, false), (0x65, .zp, 2, 3, false), (0x69, .imm, 2, 2, false),
      (0x6D, .abs, 3, 4, false), (0x71, .indy, 2, 5, true), (0x75, .zpx, 2, 4, false),
      (0x79, .absy, 3, 4, true), (0x7D, .absx, 3, 4, true)] ∧
  encodingsOf .SBC = [(0xE1, .indx, 2, 6, false), (0xE5, .zp, 2, 3, false), (0xE9, .imm, 2, 2, false),
      (0xED, .abs, 3, 4, false), (0xF1, .indy, 2, 5, true), (0xF5, .zpx, 2, 4, false),
      (0xF9, .absy, 3, 4, true), (0xFD, .absx, 3, 4, true)] ∧
  ∀ (i : Instr) (s : State) (q : Sum), OnArrayBus s →
    ((i.mnemonic = .ADC ∧ q = aluAdd s.a (operandByte i.operand s) (s.flag .C)) ∨
      (i.mnemonic = .SBC ∧ q = aluSub s.a (operandByte i.operand s) (s.flag .C))) →
    DecimalAllowed s → Completes i s (fun t => RegistersAre t q.r s.x s.y s.sp (nextPC i s) ∧
      FlagsBecome s t ((.C, q.cout) :: (.V, q.vout) :: nz q.r) ∧ MemorySame s t)

/-- 43_arithmetic_logic.md R183, R184, R185. -/
def Obligations.LogicCombinesIntoA : Prop :=
  encodingsOf .AND = [(0x21, .indx, 2, 6, false), (0x25, .zp, 2, 3, false), (0x29, .imm, 2, 2, false),
      (0x2D, .abs, 3, 4, false), (0x31, .indy, 2, 5, true), (0x35, .zpx, 2, 4, false),
      (0x39, .absy, 3, 4, true), (0x3D, .absx, 3, 4, true)] ∧
  encodingsOf .ORA = [(0x01, .indx, 2, 6, false), (0x05, .zp, 2, 3, false), (0x09, .imm, 2, 2, false),
      (0x0D, .abs, 3, 4, false), (0x11, .indy, 2, 5, true), (0x15, .zpx, 2, 4, false),
      (0x19, .absy, 3, 4, true), (0x1D, .absx, 3, 4, true)] ∧
  encodingsOf .EOR = [(0x41, .indx, 2, 6, false), (0x45, .zp, 2, 3, false), (0x49, .imm, 2, 2, false),
      (0x4D, .abs, 3, 4, false), (0x51, .indy, 2, 5, true), (0x55, .zpx, 2, 4, false),
      (0x59, .absy, 3, 4, true), (0x5D, .absx, 3, 4, true)] ∧
  ∀ (i : Instr) (s : State) (r : Byte), OnArrayBus s →
    ((i.mnemonic = .AND ∧ r = s.a &&& operandByte i.operand s) ∨
      (i.mnemonic = .ORA ∧ r = s.a ||| operandByte i.operand s) ∨
      (i.mnemonic = .EOR ∧ r = s.a ^^^ operandByte i.operand s)) →
    Completes i s (fun t => RegistersAre t r s.x s.y s.sp (nextPC i s) ∧ FlagsBecome s t (nz r) ∧ MemorySame s t)

/-- 43_arithmetic_logic.md R186. -/
def Obligations.BitTestsTheMemoryByte : Prop :=
  encodingsOf .BIT = [(0x24, .zp, 2, 3, false), (0x2C, .abs, 3, 4, false)] ∧
  ∀ (i : Instr) (s : State), i.mnemonic = .BIT → OnArrayBus s →
    ∃ ea, effectiveAddress i.operand s = some ea ∧
      let m := s.byteAt ea
      Completes i s (fun t => RegistersAre t s.a s.x s.y s.sp (nextPC i s) ∧
        FlagsBecome s t [(.Z, s.a &&& m == 0#8), (.N, m.getLsbD 7), (.V, m.getLsbD 6)] ∧ MemorySame s t)

/-- 43_arithmetic_logic.md R187, R188, R189. -/
def Obligations.ComparesSetFlagsOnly : Prop :=
  encodingsOf .CMP = [(0xC1, .indx, 2, 6, false), (0xC5, .zp, 2, 3, false), (0xC9, .imm, 2, 2, false),
      (0xCD, .abs, 3, 4, false), (0xD1, .indy, 2, 5, true), (0xD5, .zpx, 2, 4, false),
      (0xD9, .absy, 3, 4, true), (0xDD, .absx, 3, 4, true)] ∧
  encodingsOf .CPX = [(0xE0, .imm, 2, 2, false), (0xE4, .zp, 2, 3, false), (0xEC, .abs, 3, 4, false)] ∧
  encodingsOf .CPY = [(0xC0, .imm, 2, 2, false), (0xC4, .zp, 2, 3, false), (0xCC, .abs, 3, 4, false)] ∧
  ∀ (i : Instr) (s : State) (a : Byte), OnArrayBus s →
    ((i.mnemonic = .CMP ∧ a = s.a) ∨ (i.mnemonic = .CPX ∧ a = s.x) ∨ (i.mnemonic = .CPY ∧ a = s.y)) →
    let m := operandByte i.operand s
    Completes i s (fun t => RegistersAre t s.a s.x s.y s.sp (nextPC i s) ∧
      FlagsBecome s t [(.C, decide (m.toNat ≤ a.toNat)), (.Z, a == m), (.N, (a - m).getLsbD 7)] ∧ MemorySame s t)

/-- 43_arithmetic_logic.md R190, R191. -/
def Obligations.IncAndDecModifyMemory : Prop :=
  encodingsOf .INC = [(0xE6, .zp, 2, 5, false), (0xEE, .abs, 3, 6, false), (0xF6, .zpx, 2, 6, false),
      (0xFE, .absx, 3, 7, false)] ∧
  encodingsOf .DEC = [(0xC6, .zp, 2, 5, false), (0xCE, .abs, 3, 6, false), (0xD6, .zpx, 2, 6, false),
      (0xDE, .absx, 3, 7, false)] ∧
  ∀ (i : Instr) (s : State), (i.mnemonic = .INC ∨ i.mnemonic = .DEC) → OnArrayBus s → Memory.wf s.mem →
    ∃ ea, effectiveAddress i.operand s = some ea ∧
      let m := s.byteAt ea
      let r := if i.mnemonic = .INC then m + 1 else m - 1
      (work i s).log = (resolve i.operand (start s)).log ++ [.read ea m, .write ea r] ∧
      Completes i s (fun t => RegistersAre t s.a s.x s.y s.sp (nextPC i s) ∧ FlagsBecome s t (nz r) ∧ MemoryStored s t [(ea, r)])

/-- 43_arithmetic_logic.md R192 to R195. -/
def Obligations.IndexRegistersCountModulo256 : Prop :=
  encodingsOf .INX = [(0xE8, .imp, 1, 2, false)] ∧
  encodingsOf .INY = [(0xC8, .imp, 1, 2, false)] ∧
  encodingsOf .DEX = [(0xCA, .imp, 1, 2, false)] ∧
  encodingsOf .DEY = [(0x88, .imp, 1, 2, false)] ∧
  ∀ (s : State), OnArrayBus s →
    Completes .inx s (fun t => RegistersAre t s.a (s.x + 1) s.y s.sp s.pc ∧ FlagsBecome s t (nz (s.x + 1)) ∧ MemorySame s t) ∧
    Completes .iny s (fun t => RegistersAre t s.a s.x (s.y + 1) s.sp s.pc ∧ FlagsBecome s t (nz (s.y + 1)) ∧ MemorySame s t) ∧
    Completes .dex s (fun t => RegistersAre t s.a (s.x - 1) s.y s.sp s.pc ∧ FlagsBecome s t (nz (s.x - 1)) ∧ MemorySame s t) ∧
    Completes .dey s (fun t => RegistersAre t s.a s.x (s.y - 1) s.sp s.pc ∧ FlagsBecome s t (nz (s.y - 1)) ∧ MemorySame s t)

/-- 44_shift_rotate.md R211, R212. -/
def Obligations.ShiftsGoToAOrMemory : Prop :=
  encodingsOf .ASL = [(0x06, .zp, 2, 5, false), (0x0A, .acc, 1, 2, false), (0x0E, .abs, 3, 6, false),
      (0x16, .zpx, 2, 6, false), (0x1E, .absx, 3, 7, false)] ∧
  encodingsOf .LSR = [(0x46, .zp, 2, 5, false), (0x4A, .acc, 1, 2, false), (0x4E, .abs, 3, 6, false),
      (0x56, .zpx, 2, 6, false), (0x5E, .absx, 3, 7, false)] ∧
  ∀ (i : Instr) (s : State), OnArrayBus s → Memory.wf s.mem →
    (i.mnemonic = .ASL → ShiftCompletes i s (aluAsl (operandByte i.operand s))) ∧
    (i.mnemonic = .LSR → ShiftCompletes i s (aluLsr (operandByte i.operand s)) ∧
      ∀ t, exec i s = .next t → t.flag .N = false)

/-- 44_shift_rotate.md R213, R214. -/
def Obligations.RotatesGoThroughTheCarry : Prop :=
  encodingsOf .ROL = [(0x26, .zp, 2, 5, false), (0x2A, .acc, 1, 2, false), (0x2E, .abs, 3, 6, false),
      (0x36, .zpx, 2, 6, false), (0x3E, .absx, 3, 7, false)] ∧
  encodingsOf .ROR = [(0x66, .zp, 2, 5, false), (0x6A, .acc, 1, 2, false), (0x6E, .abs, 3, 6, false),
      (0x76, .zpx, 2, 6, false), (0x7E, .absx, 3, 7, false)] ∧
  (∀ (i : Instr) (s : State), OnArrayBus s → Memory.wf s.mem →
    (i.mnemonic = .ROL → ShiftCompletes i s (aluRol (operandByte i.operand s) (s.flag .C))) ∧
    (i.mnemonic = .ROR → ShiftCompletes i s (aluRor (operandByte i.operand s) (s.flag .C)) ∧
      ∀ t, exec i s = .next t → t.flag .N = s.flag .C)) ∧
  (∀ c : Carried, (fun q : Carried => aluRol q.r q.cout)^[9] c = c)

/-- 45_control_flow.md R220 to R228. -/
def Obligations.BranchesFollowTheirFlag : Prop :=
  encodingsOf .BCC = [(0x90, .rel, 2, 2, false)] ∧
  encodingsOf .BCS = [(0xB0, .rel, 2, 2, false)] ∧
  encodingsOf .BEQ = [(0xF0, .rel, 2, 2, false)] ∧
  encodingsOf .BNE = [(0xD0, .rel, 2, 2, false)] ∧
  encodingsOf .BMI = [(0x30, .rel, 2, 2, false)] ∧
  encodingsOf .BPL = [(0x10, .rel, 2, 2, false)] ∧
  encodingsOf .BVC = [(0x50, .rel, 2, 2, false)] ∧
  encodingsOf .BVS = [(0x70, .rel, 2, 2, false)] ∧
  ∀ (i : Instr) (s : State) (taken : Bool), branchCondition i.mnemonic s = some taken → OnArrayBus s →
    ∃ d, i.operand = .rel d ∧
      (∃ ea, effectiveAddress (.rel d) s = some ea ∧ ea = s.pc + 1 + sext16 d ∧
        Completes i s (fun t => RegistersAre t s.a s.x s.y s.sp (if taken then ea else s.pc + 1) ∧ t.p = s.p ∧
          MemorySame s t) ∧
        (work i s).extra = if taken then 1 + (hi ea != hi (s.pc + 1)).toNat else 0) ∧
      (work i s).log = [.read s.pc d]

/-- 45_control_flow.md R229. -/
def Obligations.JmpGoesToTheAddress : Prop :=
  encodingsOf .JMP = [(0x4C, .abs, 3, 3, false), (0x6C, .ind, 3, 5, false)] ∧
  ∀ (i : Instr) (s : State), i.mnemonic = .JMP → OnArrayBus s →
    ∃ ea, effectiveAddress i.operand s = some ea ∧ (∀ a, i = .jmpAbs a → ea = a) ∧
      (work i s).log = (resolve i.operand (start s)).log ∧
      Completes i s (fun t => RegistersAre t s.a s.x s.y s.sp ea ∧ t.p = s.p ∧ MemorySame s t)

/-- 45_control_flow.md R230. `s.pc` is the address of the second byte of the JSR. -/
def Obligations.JsrPushesTheLastByteAddress : Prop :=
  encodingsOf .JSR = [(0x20, .abs, 3, 6, false)] ∧
  ∀ (a : Word) (s : State), OnArrayBus s → Memory.wf s.mem →
    Completes (.jsr a) s (fun t => RegistersAre t s.a s.x s.y (s.sp - 2) a ∧ t.p = s.p ∧
      MemoryStored s t [(stackAddr s.sp, hi (s.pc + 1)), (stackAddr (s.sp - 1), lo (s.pc + 1))]) ∧
    (work (.jsr a) s).log = [.read s.pc (lo a), .read (s.pc + 1) (hi a),
      .write (stackAddr s.sp) (hi (s.pc + 1)), .write (stackAddr (s.sp - 1)) (lo (s.pc + 1))]

/-- 45_control_flow.md R231. -/
def Obligations.RtsReturnsToThePulledAddressPlusOne : Prop :=
  encodingsOf .RTS = [(0x60, .imp, 1, 6, false)] ∧
  ∀ (s : State), OnArrayBus s →
    Completes .rts s (fun t => RegistersAre t s.a s.x s.y (s.sp + 2)
      (join (s.byteAt (stackAddr (s.sp + 2))) (s.byteAt (stackAddr (s.sp + 1))) + 1) ∧ t.p = s.p ∧ MemorySame s t)

/-- 46_stack_flags_system.md R250 to R252, with the stack page of 10_state.md R25. -/
def Obligations.StackInstructionsPushAndPull : Prop :=
  encodingsOf .PHA = [(0x48, .imp, 1, 3, false)] ∧
  encodingsOf .PHP = [(0x08, .imp, 1, 3, false)] ∧
  encodingsOf .PLA = [(0x68, .imp, 1, 4, false)] ∧
  (∀ sp : Byte, (stackAddr sp).toNat = 0x100 + sp.toNat) ∧
  ∀ (s : State), OnArrayBus s → Memory.wf s.mem →
    Completes .pha s (fun t => RegistersAre t s.a s.x s.y (s.sp - 1) s.pc ∧ t.p = s.p ∧
      MemoryStored s t [(stackAddr s.sp, s.a)]) ∧
    Completes .php s (fun t => RegistersAre t s.a s.x s.y (s.sp - 1) s.pc ∧ t.p = s.p ∧
      MemoryStored s t [(stackAddr s.sp, s.p ||| 0x30)]) ∧
    let v := s.byteAt (stackAddr (s.sp + 1))
    Completes .pla s (fun t => RegistersAre t v s.x s.y (s.sp + 1) s.pc ∧ FlagsBecome s t (nz v) ∧ MemorySame s t)

/-- 46_stack_flags_system.md R253. -/
def Obligations.PlpTakesSixFlags : Prop :=
  encodingsOf .PLP = [(0x28, .imp, 1, 4, false)] ∧
  ∀ (s : State), OnArrayBus s →
    let v := s.byteAt (stackAddr (s.sp + 1))
    Completes .plp s (fun t => RegistersAre t s.a s.x s.y (s.sp + 1) s.pc ∧
      FlagsBecome s t [(.C, v.getLsbD 0), (.Z, v.getLsbD 1), (.I, v.getLsbD 2), (.D, v.getLsbD 3),
        (.V, v.getLsbD 6), (.N, v.getLsbD 7)] ∧
      (s.Inv → t.p = (v &&& 0xCF) ||| 0x20) ∧ MemorySame s t)

/-- 46_stack_flags_system.md R254 to R261. -/
def Obligations.FlagInstructionsAndNop : Prop :=
  encodingsOf .CLC = [(0x18, .imp, 1, 2, false)] ∧
  encodingsOf .SEC = [(0x38, .imp, 1, 2, false)] ∧
  encodingsOf .CLI = [(0x58, .imp, 1, 2, false)] ∧
  encodingsOf .SEI = [(0x78, .imp, 1, 2, false)] ∧
  encodingsOf .CLD = [(0xD8, .imp, 1, 2, false)] ∧
  encodingsOf .SED = [(0xF8, .imp, 1, 2, false)] ∧
  encodingsOf .CLV = [(0xB8, .imp, 1, 2, false)] ∧
  encodingsOf .NOP = [(0xEA, .imp, 1, 2, false)] ∧
  ∀ (s : State), OnArrayBus s →
    (∀ (i : Instr) (f : Flag) (c : Bool),
      (i, f, c) ∈ [(.clc, .C, false), (.sec, .C, true), (.cli, .I, false), (.sei, .I, true), (.cld, .D, false),
        (.sed, .D, true), (.clv, .V, false)] →
      Completes i s (fun t => RegistersAre t s.a s.x s.y s.sp s.pc ∧ FlagsBecome s t [(f, c)] ∧ MemorySame s t)) ∧
    exec .nop s = .next s

/-- 46_stack_flags_system.md R262. `s.pc` is the address of the byte after the opcode. -/
def Obligations.BrkTakesTheTrap : Prop :=
  encodingsOf .BRK = [(0x00, .imp, 1, 7, false)] ∧
  ∀ (s : State), OnArrayBus s → Memory.wf s.mem →
    Completes .brk s (fun t => RegistersAre t s.a s.x s.y (s.sp - 3) (join (s.byteAt 0xFFFF) (s.byteAt 0xFFFE)) ∧
      FlagsBecome s t [(.I, true)] ∧
      MemoryStored s t [(stackAddr s.sp, hi (s.pc + 1)), (stackAddr (s.sp - 1), lo (s.pc + 1)),
        (stackAddr (s.sp - 2), s.p ||| 0x30)]) ∧
    (work .brk s).log = [.write (stackAddr s.sp) (hi (s.pc + 1)), .write (stackAddr (s.sp - 1)) (lo (s.pc + 1)),
      .write (stackAddr (s.sp - 2)) (s.p ||| 0x30), .read 0xFFFE (s.byteAt 0xFFFE), .read 0xFFFF (s.byteAt 0xFFFF)]

/-- 46_stack_flags_system.md R263. -/
def Obligations.RtiRestoresFlagsAndAddress : Prop :=
  encodingsOf .RTI = [(0x40, .imp, 1, 6, false)] ∧
  ∀ (s : State), OnArrayBus s →
    let v := s.byteAt (stackAddr (s.sp + 1))
    Completes .rti s (fun t => RegistersAre t s.a s.x s.y (s.sp + 3)
        (join (s.byteAt (stackAddr (s.sp + 3))) (s.byteAt (stackAddr (s.sp + 2)))) ∧
      FlagsBecome s t [(.C, v.getLsbD 0), (.Z, v.getLsbD 1), (.I, v.getLsbD 2), (.D, v.getLsbD 3),
        (.V, v.getLsbD 6), (.N, v.getLsbD 7)] ∧ MemorySame s t)

/-- 60_exceptions.md R319, R320. `s.pc` is the address of the byte after the BRK opcode. -/
def Obligations.RtiUndoesBrk : Prop :=
  ∀ s t u : State, OnArrayBus s → s.Inv → exec .brk s = .next t → u.Inv → OnArrayBus u → u.sp = t.sp → u.mem = t.mem →
    Completes .rti u (fun v => v.p = s.p ∧ v.sp = s.sp ∧ v.pc = s.pc + 1 ∧ MemorySame t v)

/-- 45_control_flow.md R230, R231. `s.pc` is the address of the second byte of the JSR. -/
def Obligations.RtsReturnsPastTheJsr : Prop :=
  ∀ (a : Word) (s t u : State), OnArrayBus s → Memory.wf s.mem → exec (.jsr a) s = .next t → OnArrayBus u → u.sp = t.sp →
    u.mem = t.mem → Completes .rts u (fun v => v.pc = s.pc + 2 ∧ v.sp = s.sp ∧ v.p = u.p ∧ MemorySame t v)

/-- 43_arithmetic_logic.md R181, R182 give no result there. The refusal, and its place before a rejected access, is the
model's choice (log entry 7). -/
def Obligations.RefusalIsDecimalModeOnly : Prop :=
  (∀ (i : Instr) (s : State), (i.mnemonic = .ADC ∨ i.mnemonic = .SBC) → ¬ DecimalAllowed s →
    exec i s = .refused .decimalMode) ∧
  (∀ (i : Instr) (s : State) (r : Refusal), exec i s = .refused r →
    r = .decimalMode ∧ (i.mnemonic = .ADC ∨ i.mnemonic = .SBC) ∧ ¬ DecimalAllowed s)

/-- 60_exceptions.md R326. What it shows for a byte without a table entry is the model's choice (log entry 14). -/
def Obligations.MnemonicObserverFollowsTheLatch : Prop :=
  (∀ (s t : State) (i : Instr), decodeAt s = some i → step s = .next t → observedMnemonic t = some i.mnemonic) ∧
  (∀ s : State, observedMnemonic s = none ↔ lookup s.cfg.tableProfile s.opcode = none)

/-- 41_address_resolver.md R130, with the bases of R140, R141, R144 and 92_eei_decisions.md D16. Which modes deliver one is
the model's inference (log entry 15). -/
def Obligations.ResolverDeliversTheBaseOfThePageTest : Prop :=
  ∀ (o : Operand) (s : State), (resolve o (start s)).base = (match o with
    | .absx a | .absy a => some a
    | .indy b => some (join (s.byteAt (zext16 (b + 1))) (s.byteAt (zext16 b)))
    | .rel _ => some (s.pc + 1)
    | .imp | .acc | .imm _ | .zp _ | .zpx _ | .zpy _ | .abs _ | .ind _ | .indx _ => none)
end

