-- ==== Sys2Proof/Laws/State.lean ====
section
/-! SUPPORT. One lemma per field per update of State, and of the working copy's update, so that no proof unfolds a
record update. -/

namespace Sys2Proof.Machine

variable (s : State)

@[simp] theorem State.setA_a (v : Byte) : (s.setA v).a = v := rfl
@[simp] theorem State.setA_x (v : Byte) : (s.setA v).x = s.x := rfl
@[simp] theorem State.setA_y (v : Byte) : (s.setA v).y = s.y := rfl
@[simp] theorem State.setA_sp (v : Byte) : (s.setA v).sp = s.sp := rfl
@[simp] theorem State.setA_pc (v : Byte) : (s.setA v).pc = s.pc := rfl
@[simp] theorem State.setA_p (v : Byte) : (s.setA v).p = s.p := rfl
@[simp] theorem State.setA_opcode (v : Byte) : (s.setA v).opcode = s.opcode := rfl
@[simp] theorem State.setA_dataBus (v : Byte) : (s.setA v).dataBus = s.dataBus := rfl
@[simp] theorem State.setA_addrBus (v : Byte) : (s.setA v).addrBus = s.addrBus := rfl
@[simp] theorem State.setA_mem (v : Byte) : (s.setA v).mem = s.mem := rfl
@[simp] theorem State.setA_cfg (v : Byte) : (s.setA v).cfg = s.cfg := rfl

@[simp] theorem State.setX_a (v : Byte) : (s.setX v).a = s.a := rfl
@[simp] theorem State.setX_x (v : Byte) : (s.setX v).x = v := rfl
@[simp] theorem State.setX_y (v : Byte) : (s.setX v).y = s.y := rfl
@[simp] theorem State.setX_sp (v : Byte) : (s.setX v).sp = s.sp := rfl
@[simp] theorem State.setX_pc (v : Byte) : (s.setX v).pc = s.pc := rfl
@[simp] theorem State.setX_p (v : Byte) : (s.setX v).p = s.p := rfl
@[simp] theorem State.setX_opcode (v : Byte) : (s.setX v).opcode = s.opcode := rfl
@[simp] theorem State.setX_dataBus (v : Byte) : (s.setX v).dataBus = s.dataBus := rfl
@[simp] theorem State.setX_addrBus (v : Byte) : (s.setX v).addrBus = s.addrBus := rfl
@[simp] theorem State.setX_mem (v : Byte) : (s.setX v).mem = s.mem := rfl
@[simp] theorem State.setX_cfg (v : Byte) : (s.setX v).cfg = s.cfg := rfl

@[simp] theorem State.setY_a (v : Byte) : (s.setY v).a = s.a := rfl
@[simp] theorem State.setY_x (v : Byte) : (s.setY v).x = s.x := rfl
@[simp] theorem State.setY_y (v : Byte) : (s.setY v).y = v := rfl
@[simp] theorem State.setY_sp (v : Byte) : (s.setY v).sp = s.sp := rfl
@[simp] theorem State.setY_pc (v : Byte) : (s.setY v).pc = s.pc := rfl
@[simp] theorem State.setY_p (v : Byte) : (s.setY v).p = s.p := rfl
@[simp] theorem State.setY_opcode (v : Byte) : (s.setY v).opcode = s.opcode := rfl
@[simp] theorem State.setY_dataBus (v : Byte) : (s.setY v).dataBus = s.dataBus := rfl
@[simp] theorem State.setY_addrBus (v : Byte) : (s.setY v).addrBus = s.addrBus := rfl
@[simp] theorem State.setY_mem (v : Byte) : (s.setY v).mem = s.mem := rfl
@[simp] theorem State.setY_cfg (v : Byte) : (s.setY v).cfg = s.cfg := rfl

@[simp] theorem State.setSP_a (v : Byte) : (s.setSP v).a = s.a := rfl
@[simp] theorem State.setSP_x (v : Byte) : (s.setSP v).x = s.x := rfl
@[simp] theorem State.setSP_y (v : Byte) : (s.setSP v).y = s.y := rfl
@[simp] theorem State.setSP_sp (v : Byte) : (s.setSP v).sp = v := rfl
@[simp] theorem State.setSP_pc (v : Byte) : (s.setSP v).pc = s.pc := rfl
@[simp] theorem State.setSP_p (v : Byte) : (s.setSP v).p = s.p := rfl
@[simp] theorem State.setSP_opcode (v : Byte) : (s.setSP v).opcode = s.opcode := rfl
@[simp] theorem State.setSP_dataBus (v : Byte) : (s.setSP v).dataBus = s.dataBus := rfl
@[simp] theorem State.setSP_addrBus (v : Byte) : (s.setSP v).addrBus = s.addrBus := rfl
@[simp] theorem State.setSP_mem (v : Byte) : (s.setSP v).mem = s.mem := rfl
@[simp] theorem State.setSP_cfg (v : Byte) : (s.setSP v).cfg = s.cfg := rfl

@[simp] theorem State.setPC_a (v : Word) : (s.setPC v).a = s.a := rfl
@[simp] theorem State.setPC_x (v : Word) : (s.setPC v).x = s.x := rfl
@[simp] theorem State.setPC_y (v : Word) : (s.setPC v).y = s.y := rfl
@[simp] theorem State.setPC_sp (v : Word) : (s.setPC v).sp = s.sp := rfl
@[simp] theorem State.setPC_pc (v : Word) : (s.setPC v).pc = v := rfl
@[simp] theorem State.setPC_p (v : Word) : (s.setPC v).p = s.p := rfl
@[simp] theorem State.setPC_opcode (v : Word) : (s.setPC v).opcode = s.opcode := rfl
@[simp] theorem State.setPC_dataBus (v : Word) : (s.setPC v).dataBus = s.dataBus := rfl
@[simp] theorem State.setPC_addrBus (v : Word) : (s.setPC v).addrBus = s.addrBus := rfl
@[simp] theorem State.setPC_mem (v : Word) : (s.setPC v).mem = s.mem := rfl
@[simp] theorem State.setPC_cfg (v : Word) : (s.setPC v).cfg = s.cfg := rfl

@[simp] theorem State.setP_a (v : Byte) : (s.setP v).a = s.a := rfl
@[simp] theorem State.setP_x (v : Byte) : (s.setP v).x = s.x := rfl
@[simp] theorem State.setP_y (v : Byte) : (s.setP v).y = s.y := rfl
@[simp] theorem State.setP_sp (v : Byte) : (s.setP v).sp = s.sp := rfl
@[simp] theorem State.setP_pc (v : Byte) : (s.setP v).pc = s.pc := rfl
@[simp] theorem State.setP_p (v : Byte) : (s.setP v).p = v := rfl
@[simp] theorem State.setP_opcode (v : Byte) : (s.setP v).opcode = s.opcode := rfl
@[simp] theorem State.setP_dataBus (v : Byte) : (s.setP v).dataBus = s.dataBus := rfl
@[simp] theorem State.setP_addrBus (v : Byte) : (s.setP v).addrBus = s.addrBus := rfl
@[simp] theorem State.setP_mem (v : Byte) : (s.setP v).mem = s.mem := rfl
@[simp] theorem State.setP_cfg (v : Byte) : (s.setP v).cfg = s.cfg := rfl

@[simp] theorem State.setOpcode_a (v : Byte) : (s.setOpcode v).a = s.a := rfl
@[simp] theorem State.setOpcode_x (v : Byte) : (s.setOpcode v).x = s.x := rfl
@[simp] theorem State.setOpcode_y (v : Byte) : (s.setOpcode v).y = s.y := rfl
@[simp] theorem State.setOpcode_sp (v : Byte) : (s.setOpcode v).sp = s.sp := rfl
@[simp] theorem State.setOpcode_pc (v : Byte) : (s.setOpcode v).pc = s.pc := rfl
@[simp] theorem State.setOpcode_p (v : Byte) : (s.setOpcode v).p = s.p := rfl
@[simp] theorem State.setOpcode_opcode (v : Byte) : (s.setOpcode v).opcode = v := rfl
@[simp] theorem State.setOpcode_dataBus (v : Byte) : (s.setOpcode v).dataBus = s.dataBus := rfl
@[simp] theorem State.setOpcode_addrBus (v : Byte) : (s.setOpcode v).addrBus = s.addrBus := rfl
@[simp] theorem State.setOpcode_mem (v : Byte) : (s.setOpcode v).mem = s.mem := rfl
@[simp] theorem State.setOpcode_cfg (v : Byte) : (s.setOpcode v).cfg = s.cfg := rfl

@[simp] theorem State.setDataBus_a (v : Byte) : (s.setDataBus v).a = s.a := rfl
@[simp] theorem State.setDataBus_x (v : Byte) : (s.setDataBus v).x = s.x := rfl
@[simp] theorem State.setDataBus_y (v : Byte) : (s.setDataBus v).y = s.y := rfl
@[simp] theorem State.setDataBus_sp (v : Byte) : (s.setDataBus v).sp = s.sp := rfl
@[simp] theorem State.setDataBus_pc (v : Byte) : (s.setDataBus v).pc = s.pc := rfl
@[simp] theorem State.setDataBus_p (v : Byte) : (s.setDataBus v).p = s.p := rfl
@[simp] theorem State.setDataBus_opcode (v : Byte) : (s.setDataBus v).opcode = s.opcode := rfl
@[simp] theorem State.setDataBus_dataBus (v : Byte) : (s.setDataBus v).dataBus = v := rfl
@[simp] theorem State.setDataBus_addrBus (v : Byte) : (s.setDataBus v).addrBus = s.addrBus := rfl
@[simp] theorem State.setDataBus_mem (v : Byte) : (s.setDataBus v).mem = s.mem := rfl
@[simp] theorem State.setDataBus_cfg (v : Byte) : (s.setDataBus v).cfg = s.cfg := rfl

@[simp] theorem State.setAddrBus_a (v : Word) : (s.setAddrBus v).a = s.a := rfl
@[simp] theorem State.setAddrBus_x (v : Word) : (s.setAddrBus v).x = s.x := rfl
@[simp] theorem State.setAddrBus_y (v : Word) : (s.setAddrBus v).y = s.y := rfl
@[simp] theorem State.setAddrBus_sp (v : Word) : (s.setAddrBus v).sp = s.sp := rfl
@[simp] theorem State.setAddrBus_pc (v : Word) : (s.setAddrBus v).pc = s.pc := rfl
@[simp] theorem State.setAddrBus_p (v : Word) : (s.setAddrBus v).p = s.p := rfl
@[simp] theorem State.setAddrBus_opcode (v : Word) : (s.setAddrBus v).opcode = s.opcode := rfl
@[simp] theorem State.setAddrBus_dataBus (v : Word) : (s.setAddrBus v).dataBus = s.dataBus := rfl
@[simp] theorem State.setAddrBus_addrBus (v : Word) : (s.setAddrBus v).addrBus = v := rfl
@[simp] theorem State.setAddrBus_mem (v : Word) : (s.setAddrBus v).mem = s.mem := rfl
@[simp] theorem State.setAddrBus_cfg (v : Word) : (s.setAddrBus v).cfg = s.cfg := rfl

@[simp] theorem State.setMem_a (v : Memory) : (s.setMem v).a = s.a := rfl
@[simp] theorem State.setMem_x (v : Memory) : (s.setMem v).x = s.x := rfl
@[simp] theorem State.setMem_y (v : Memory) : (s.setMem v).y = s.y := rfl
@[simp] theorem State.setMem_sp (v : Memory) : (s.setMem v).sp = s.sp := rfl
@[simp] theorem State.setMem_pc (v : Memory) : (s.setMem v).pc = s.pc := rfl
@[simp] theorem State.setMem_p (v : Memory) : (s.setMem v).p = s.p := rfl
@[simp] theorem State.setMem_opcode (v : Memory) : (s.setMem v).opcode = s.opcode := rfl
@[simp] theorem State.setMem_dataBus (v : Memory) : (s.setMem v).dataBus = s.dataBus := rfl
@[simp] theorem State.setMem_addrBus (v : Memory) : (s.setMem v).addrBus = s.addrBus := rfl
@[simp] theorem State.setMem_mem (v : Memory) : (s.setMem v).mem = v := rfl
@[simp] theorem State.setMem_cfg (v : Memory) : (s.setMem v).cfg = s.cfg := rfl

@[simp] theorem State.store_a (b : Word) (v : Byte) : (s.store b v).a = s.a := rfl
@[simp] theorem State.store_x (b : Word) (v : Byte) : (s.store b v).x = s.x := rfl
@[simp] theorem State.store_y (b : Word) (v : Byte) : (s.store b v).y = s.y := rfl
@[simp] theorem State.store_sp (b : Word) (v : Byte) : (s.store b v).sp = s.sp := rfl
@[simp] theorem State.store_pc (b : Word) (v : Byte) : (s.store b v).pc = s.pc := rfl
@[simp] theorem State.store_p (b : Word) (v : Byte) : (s.store b v).p = s.p := rfl
@[simp] theorem State.store_opcode (b : Word) (v : Byte) : (s.store b v).opcode = s.opcode := rfl
@[simp] theorem State.store_dataBus (b : Word) (v : Byte) : (s.store b v).dataBus = s.dataBus := rfl
@[simp] theorem State.store_addrBus (b : Word) (v : Byte) : (s.store b v).addrBus = s.addrBus := rfl
@[simp] theorem State.store_mem (b : Word) (v : Byte) : (s.store b v).mem = Memory.write s.mem b.toNat v := rfl
@[simp] theorem State.store_cfg (b : Word) (v : Byte) : (s.store b v).cfg = s.cfg := rfl

-- The reads of one flag and of one byte depend on P and on memory only.
@[simp] theorem State.setA_flag (v : Byte) (f : Flag) : (s.setA v).flag f = s.flag f := rfl
@[simp] theorem State.setA_byteAt (v : Byte) (b : Word) : (s.setA v).byteAt b = s.byteAt b := rfl
@[simp] theorem State.setX_flag (v : Byte) (f : Flag) : (s.setX v).flag f = s.flag f := rfl
@[simp] theorem State.setX_byteAt (v : Byte) (b : Word) : (s.setX v).byteAt b = s.byteAt b := rfl
@[simp] theorem State.setY_flag (v : Byte) (f : Flag) : (s.setY v).flag f = s.flag f := rfl
@[simp] theorem State.setY_byteAt (v : Byte) (b : Word) : (s.setY v).byteAt b = s.byteAt b := rfl
@[simp] theorem State.setSP_flag (v : Byte) (f : Flag) : (s.setSP v).flag f = s.flag f := rfl
@[simp] theorem State.setSP_byteAt (v : Byte) (b : Word) : (s.setSP v).byteAt b = s.byteAt b := rfl
@[simp] theorem State.setPC_flag (v : Word) (f : Flag) : (s.setPC v).flag f = s.flag f := rfl
@[simp] theorem State.setPC_byteAt (v : Word) (b : Word) : (s.setPC v).byteAt b = s.byteAt b := rfl
@[simp] theorem State.setP_byteAt (v : Byte) (b : Word) : (s.setP v).byteAt b = s.byteAt b := rfl
@[simp] theorem State.setOpcode_flag (v : Byte) (f : Flag) : (s.setOpcode v).flag f = s.flag f := rfl
@[simp] theorem State.setOpcode_byteAt (v : Byte) (b : Word) : (s.setOpcode v).byteAt b = s.byteAt b := rfl
@[simp] theorem State.setDataBus_flag (v : Byte) (f : Flag) : (s.setDataBus v).flag f = s.flag f := rfl
@[simp] theorem State.setDataBus_byteAt (v : Byte) (b : Word) : (s.setDataBus v).byteAt b = s.byteAt b := rfl
@[simp] theorem State.setAddrBus_flag (v : Word) (f : Flag) : (s.setAddrBus v).flag f = s.flag f := rfl
@[simp] theorem State.setAddrBus_byteAt (v : Word) (b : Word) : (s.setAddrBus v).byteAt b = s.byteAt b := rfl
@[simp] theorem State.setMem_flag (v : Memory) (f : Flag) : (s.setMem v).flag f = s.flag f := rfl
@[simp] theorem State.setP_flag (v : Byte) (f : Flag) : (s.setP v).flag f = getFlag f v := rfl
@[simp] theorem State.store_flag (b : Word) (v : Byte) (f : Flag) : (s.store b v).flag f = s.flag f := rfl

@[simp] theorem Work.upd_st (f : State → State) (w : Work) : (w.upd f).st = f w.st := rfl
@[simp] theorem Work.upd_log (f : State → State) (w : Work) : (w.upd f).log = w.log := rfl
@[simp] theorem Work.upd_mode (f : State → State) (w : Work) : (w.upd f).mode = w.mode := rfl
@[simp] theorem Work.upd_ea (f : State → State) (w : Work) : (w.upd f).ea = w.ea := rfl
@[simp] theorem Work.upd_operand (f : State → State) (w : Work) : (w.upd f).operand = w.operand := rfl
@[simp] theorem Work.upd_base (f : State → State) (w : Work) : (w.upd f).base = w.base := rfl
@[simp] theorem Work.upd_pageCross (f : State → State) (w : Work) : (w.upd f).pageCross = w.pageCross := rfl
@[simp] theorem Work.upd_extra (f : State → State) (w : Work) : (w.upd f).extra = w.extra := rfl
@[simp] theorem Work.upd_refusal (f : State → State) (w : Work) : (w.upd f).refusal = w.refusal := rfl

@[simp] theorem start_st : (start s).st = s := rfl
@[simp] theorem start_log : (start s).log = [] := rfl
@[simp] theorem start_ea : (start s).ea = none := rfl
@[simp] theorem start_operand : (start s).operand = none := rfl
@[simp] theorem start_pageCross : (start s).pageCross = false := rfl
@[simp] theorem start_extra : (start s).extra = 0 := rfl
@[simp] theorem start_refusal : (start s).refusal = none := rfl

end Sys2Proof.Machine
end

