-- ==== Sys2Proof/Laws/Flags.lean ====
section
/-! SUPPORT. What the flag updater does to each flag, said once. -/

namespace Sys2Proof.Machine

/-- The flag updater changes the named flag only, and Unused not at all (40_flag_update_and_alu.md R100, R101). -/
@[simp] theorem getFlag_setFlag (f g : Flag) (c : Bool) (p : Byte) :
    getFlag g (setFlag f c p) = if g = f ∧ f ≠ .U then c else getFlag g p := by
  cases f <;> cases g <;> cases c <;> simp [getFlag, setFlag, Flag.mask, Flag.bit]

theorem getFlag_setNZ (g : Flag) (r p : Byte) :
    getFlag g (setNZ r p) = if g = .N then r.getLsbD 7 else if g = .Z then r == 0#8 else getFlag g p := by
  cases g <;> simp [setNZ]

theorem getFlag_setPulledFlags (g : Flag) (v p : Byte) :
    getFlag g (setPulledFlags v p) = if g = .B ∨ g = .U then getFlag g p else getFlag g v := by
  cases g <;> simp [setPulledFlags, getFlag_setFlag] <;> rfl

/-- The pushed copy has Break and Unused set and the other flags of P (46_stack_flags_system.md R251). -/
theorem getFlag_pushedStatus (g : Flag) (p : Byte) :
    getFlag g (pushedStatus p) = if g = .B ∨ g = .U then true else getFlag g p := by
  cases g <;> simp [pushedStatus, getFlag, Flag.bit]

/-- A status byte is determined by its eight flags. -/
theorem status_ext {p q : Byte} (h : ∀ f, getFlag f p = getFlag f q) : p = q := by
  apply BitVec.eq_of_getLsbD_eq
  intro i hi
  have h0 := h .C
  have h1 := h .Z
  have h2 := h .I
  have h3 := h .D
  have h4 := h .B
  have h5 := h .U
  have h6 := h .V
  have h7 := h .N
  simp only [getFlag, Flag.bit] at h0 h1 h2 h3 h4 h5 h6 h7
  interval_cases i <;> assumption

end Sys2Proof.Machine
end

