-- ==== Sys2Proof/Laws/Memory.lean ====
section
/-! SUPPORT. The memory array: what a read gives after a write, and that the canonical form is kept. -/

namespace Sys2Proof.Machine

@[simp] theorem Memory.read_nil (n : Nat) : Memory.read [] n = 0#8 := rfl

/-- An address below every listed one is not listed. -/
theorem Memory.read_eq_zero {m : Memory} {n : Nat} (h : ∀ c ∈ m, n < c.1) : Memory.read m n = 0#8 := by
  induction m with
  | nil => rfl
  | cons c m ih =>
    have h1 := h c (by simp)
    have h2 : ∀ d ∈ m, n < d.1 := fun d hd => h d (by simp [hd])
    simp [Memory.read, Nat.ne_of_gt h1, ih h2]

/-- Another address reads as before, in any list. -/
theorem Memory.read_write_ne (m : Memory) {n k : Nat} (v : Byte) (h : n ≠ k) :
    Memory.read (Memory.write m k v) n = Memory.read m n := by
  induction m with
  | nil =>
    by_cases hv : v = 0#8 <;> simp [Memory.write, Memory.read, hv, h.symm]
  | cons c m ih =>
    obtain ⟨j, x⟩ := c
    simp only [Memory.write]
    by_cases h1 : k < j
    · by_cases hv : v = 0#8 <;> simp [h1, hv, Memory.read, h.symm]
    · by_cases h2 : k = j
      · subst h2
        by_cases hv : v = 0#8 <;> simp [hv, Memory.read, h.symm]
      · simp [h1, h2, Memory.read, ih]

/-- The written address reads the written byte. -/
theorem Memory.read_write_self {m : Memory} (n : Nat) (v : Byte) (h : m.wf) :
    Memory.read (Memory.write m n v) n = v := by
  induction m with
  | nil => by_cases hv : v = 0#8 <;> simp [Memory.write, Memory.read, hv]
  | cons c m ih =>
    obtain ⟨j, x⟩ := c
    obtain ⟨hp, hm⟩ := h
    rw [List.pairwise_cons] at hp
    have hw : Memory.wf m := ⟨hp.2, fun d hd => hm d (by simp [hd])⟩
    simp only [Memory.write]
    by_cases h1 : n < j
    · by_cases hv : v = 0#8
      · have hz : Memory.read m n = 0#8 :=
          Memory.read_eq_zero (fun d hd => Nat.lt_trans h1 (hp.1 d hd))
        simp [h1, hv, Memory.read, Nat.ne_of_gt h1, hz]
      · simp [h1, hv, Memory.read]
    · by_cases h2 : n = j
      · subst h2
        by_cases hv : v = 0#8
        · simp [hv, Memory.read_eq_zero (fun d hd => hp.1 d hd)]
        · simp [hv, Memory.read]
      · have h3 : j ≠ n := fun e => h2 e.symm
        simp [h1, h2, h3, Memory.read, ih hw]

/-- What a write leaves in the list: the new cell, or an old one at another address. -/
theorem Memory.mem_write {m : Memory} {n : Nat} {v : Byte} {c : Host.Cell} (h : c ∈ Memory.write m n v) :
    (c = (n, v) ∧ v ≠ 0#8) ∨ c ∈ m := by
  induction m with
  | nil => by_cases hv : v = 0#8 <;> simp_all [Memory.write]
  | cons d m ih =>
    obtain ⟨j, x⟩ := d
    simp only [Memory.write] at h
    split_ifs at h with h1 hv h2 hv
    · exact Or.inr h
    · rcases List.mem_cons.1 h with rfl | h
      · exact Or.inl ⟨rfl, hv⟩
      · exact Or.inr h
    · exact Or.inr (List.mem_cons_of_mem _ h)
    · rcases List.mem_cons.1 h with rfl | h
      · exact Or.inl ⟨rfl, hv⟩
      · exact Or.inr (List.mem_cons_of_mem _ h)
    · rcases List.mem_cons.1 h with rfl | h
      · exact Or.inr (by simp)
      · rcases ih h with h | h
        · exact Or.inl h
        · exact Or.inr (List.mem_cons_of_mem _ h)

/-- A write keeps the canonical form. -/
theorem Memory.write_wf {m : Memory} {n : Nat} (v : Byte) (hn : n < 65536) (h : m.wf) : (Memory.write m n v).wf := by
  obtain ⟨hp, hm⟩ := h
  refine ⟨?_, fun c hc => ?_⟩
  · clear hm
    induction m with
    | nil => by_cases hv : v = 0#8 <;> simp [Memory.write, hv]
    | cons d m ih =>
      obtain ⟨j, x⟩ := d
      have hp' := List.pairwise_cons.1 hp
      simp only [Memory.write]
      split_ifs with h1 hv h2 hv
      · exact hp
      · refine List.pairwise_cons.2 ⟨fun e he => ?_, hp⟩
        rcases List.mem_cons.1 he with rfl | he
        · exact h1
        · exact Nat.lt_trans h1 (hp'.1 e he)
      · exact hp'.2
      · subst h2
        exact List.pairwise_cons.2 ⟨hp'.1, hp'.2⟩
      · refine List.pairwise_cons.2 ⟨fun e he => ?_, ih hp'.2⟩
        rcases Memory.mem_write he with ⟨rfl, _⟩ | he
        · show j < n
          omega
        · exact hp'.1 e he
  · rcases Memory.mem_write hc with ⟨rfl, hv⟩ | hc
    · exact ⟨hn, hv⟩
    · exact hm c hc

/-- A byte stored at a 16-bit address keeps the canonical form. -/
theorem State.store_wf {s : State} (addr : Word) (v : Byte) (h : Memory.wf s.mem) : Memory.wf (s.store addr v).mem :=
  Memory.write_wf v addr.isLt h

/-- Reading a byte after storing one. -/
theorem State.store_byteAt {s : State} (addr b : Word) (v : Byte) (h : Memory.wf s.mem) :
    (s.store addr v).byteAt b = if b = addr then v else s.byteAt b := by
  by_cases hb : b = addr
  · subst hb
    simp [State.byteAt, Memory.read_write_self _ _ h]
  · have : b.toNat ≠ addr.toNat := fun e => hb (BitVec.eq_of_toNat_eq e)
    simp [State.byteAt, hb, Memory.read_write_ne _ _ this]

/-- Reading another byte needs no canonical form. -/
theorem State.store_byteAt_ne (s : State) {addr b : Word} (v : Byte) (h : b ≠ addr) :
    (s.store addr v).byteAt b = s.byteAt b := by
  have : b.toNat ≠ addr.toNat := fun e => h (BitVec.eq_of_toNat_eq e)
  simp [State.byteAt, Memory.read_write_ne _ _ this]

end Sys2Proof.Machine
end

