-- ==== Sys2Proof/Laws/Ops.lean ====
section
/-! SUPPORT. What each operation on the working copy does, said once: its effect on the registers and memory, on the log
of accesses, and that it leaves the rest of the working copy alone. -/

namespace Sys2Proof.Machine

variable (w : Work)

/-! ## Accesses -/

@[simp] theorem Work.read_fst (b : Word) : (w.read b).1 = w.st.byteAt b := rfl
@[simp] theorem Work.read_st (b : Word) : (w.read b).2.st = w.st.setDataBus (w.st.byteAt b) := rfl
@[simp] theorem Work.read_log (b : Word) : (w.read b).2.log = w.log ++ [.read b (w.st.byteAt b)] := rfl
@[simp] theorem Work.read_mode (b : Word) : (w.read b).2.mode = w.mode := rfl
@[simp] theorem Work.read_ea (b : Word) : (w.read b).2.ea = w.ea := rfl
@[simp] theorem Work.read_operand (b : Word) : (w.read b).2.operand = w.operand := rfl
@[simp] theorem Work.read_base (b : Word) : (w.read b).2.base = w.base := rfl
@[simp] theorem Work.read_pageCross (b : Word) : (w.read b).2.pageCross = w.pageCross := rfl
@[simp] theorem Work.read_extra (b : Word) : (w.read b).2.extra = w.extra := rfl
@[simp] theorem Work.read_refusal (b : Word) : (w.read b).2.refusal = w.refusal := rfl

@[simp] theorem Work.write_st (b : Word) (v : Byte) : (w.write b v).st = (w.st.store b v).setDataBus v := rfl
@[simp] theorem Work.write_log (b : Word) (v : Byte) : (w.write b v).log = w.log ++ [.write b v] := rfl
@[simp] theorem Work.write_mode (b : Word) (v : Byte) : (w.write b v).mode = w.mode := rfl
@[simp] theorem Work.write_ea (b : Word) (v : Byte) : (w.write b v).ea = w.ea := rfl
@[simp] theorem Work.write_operand (b : Word) (v : Byte) : (w.write b v).operand = w.operand := rfl
@[simp] theorem Work.write_base (b : Word) (v : Byte) : (w.write b v).base = w.base := rfl
@[simp] theorem Work.write_pageCross (b : Word) (v : Byte) : (w.write b v).pageCross = w.pageCross := rfl
@[simp] theorem Work.write_extra (b : Word) (v : Byte) : (w.write b v).extra = w.extra := rfl
@[simp] theorem Work.write_refusal (b : Word) (v : Byte) : (w.write b v).refusal = w.refusal := rfl

@[simp] theorem Work.fetchByte_st (v : Byte) : (w.fetchByte v).st = (w.st.setPC (w.st.pc + 1)).setDataBus v := rfl
@[simp] theorem Work.fetchByte_log (v : Byte) : (w.fetchByte v).log = w.log ++ [.read w.st.pc v] := rfl
@[simp] theorem Work.fetchByte_mode (v : Byte) : (w.fetchByte v).mode = w.mode := rfl
@[simp] theorem Work.fetchByte_ea (v : Byte) : (w.fetchByte v).ea = w.ea := rfl
@[simp] theorem Work.fetchByte_operand (v : Byte) : (w.fetchByte v).operand = w.operand := rfl
@[simp] theorem Work.fetchByte_base (v : Byte) : (w.fetchByte v).base = w.base := rfl
@[simp] theorem Work.fetchByte_pageCross (v : Byte) : (w.fetchByte v).pageCross = w.pageCross := rfl
@[simp] theorem Work.fetchByte_extra (v : Byte) : (w.fetchByte v).extra = w.extra := rfl
@[simp] theorem Work.fetchByte_refusal (v : Byte) : (w.fetchByte v).refusal = w.refusal := rfl

/-! ## Flags -/

@[simp] theorem Work.setFlag_st (f : Flag) (c : Bool) : (w.setFlag f c).st = w.st.setP (Machine.setFlag f c w.st.p) := rfl
@[simp] theorem Work.setFlag_log (f : Flag) (c : Bool) : (w.setFlag f c).log = w.log := rfl
@[simp] theorem Work.setFlag_mode (f : Flag) (c : Bool) : (w.setFlag f c).mode = w.mode := rfl
@[simp] theorem Work.setFlag_ea (f : Flag) (c : Bool) : (w.setFlag f c).ea = w.ea := rfl
@[simp] theorem Work.setFlag_operand (f : Flag) (c : Bool) : (w.setFlag f c).operand = w.operand := rfl
@[simp] theorem Work.setFlag_base (f : Flag) (c : Bool) : (w.setFlag f c).base = w.base := rfl
@[simp] theorem Work.setFlag_pageCross (f : Flag) (c : Bool) : (w.setFlag f c).pageCross = w.pageCross := rfl
@[simp] theorem Work.setFlag_extra (f : Flag) (c : Bool) : (w.setFlag f c).extra = w.extra := rfl
@[simp] theorem Work.setFlag_refusal (f : Flag) (c : Bool) : (w.setFlag f c).refusal = w.refusal := rfl

@[simp] theorem Work.setNZ_st (r : Byte) : (w.setNZ r).st = w.st.setP (Machine.setNZ r w.st.p) := rfl
@[simp] theorem Work.setNZ_log (r : Byte) : (w.setNZ r).log = w.log := rfl
@[simp] theorem Work.setNZ_mode (r : Byte) : (w.setNZ r).mode = w.mode := rfl
@[simp] theorem Work.setNZ_ea (r : Byte) : (w.setNZ r).ea = w.ea := rfl
@[simp] theorem Work.setNZ_operand (r : Byte) : (w.setNZ r).operand = w.operand := rfl
@[simp] theorem Work.setNZ_base (r : Byte) : (w.setNZ r).base = w.base := rfl
@[simp] theorem Work.setNZ_pageCross (r : Byte) : (w.setNZ r).pageCross = w.pageCross := rfl
@[simp] theorem Work.setNZ_extra (r : Byte) : (w.setNZ r).extra = w.extra := rfl
@[simp] theorem Work.setNZ_refusal (r : Byte) : (w.setNZ r).refusal = w.refusal := rfl

/-! ## The stack -/

@[simp] theorem Work.push_st (v : Byte) :
    (w.push v).st = ((w.st.store (stackAddr w.st.sp) v).setDataBus v).setSP (w.st.sp - 1) := rfl
@[simp] theorem Work.push_log (v : Byte) : (w.push v).log = w.log ++ [.write (stackAddr w.st.sp) v] := rfl
@[simp] theorem Work.push_mode (v : Byte) : (w.push v).mode = w.mode := rfl
@[simp] theorem Work.push_ea (v : Byte) : (w.push v).ea = w.ea := rfl
@[simp] theorem Work.push_operand (v : Byte) : (w.push v).operand = w.operand := rfl
@[simp] theorem Work.push_base (v : Byte) : (w.push v).base = w.base := rfl
@[simp] theorem Work.push_pageCross (v : Byte) : (w.push v).pageCross = w.pageCross := rfl
@[simp] theorem Work.push_extra (v : Byte) : (w.push v).extra = w.extra := rfl
@[simp] theorem Work.push_refusal (v : Byte) : (w.push v).refusal = w.refusal := rfl

@[simp] theorem Work.pull_fst : w.pull.1 = w.st.byteAt (stackAddr (w.st.sp + 1)) := rfl
@[simp] theorem Work.pull_st :
    w.pull.2.st = (w.st.setSP (w.st.sp + 1)).setDataBus (w.st.byteAt (stackAddr (w.st.sp + 1))) := rfl
@[simp] theorem Work.pull_log : w.pull.2.log = w.log ++ [.read (stackAddr (w.st.sp + 1))
    (w.st.byteAt (stackAddr (w.st.sp + 1)))] := rfl
@[simp] theorem Work.pull_mode : w.pull.2.mode = w.mode := rfl
@[simp] theorem Work.pull_ea : w.pull.2.ea = w.ea := rfl
@[simp] theorem Work.pull_operand : w.pull.2.operand = w.operand := rfl
@[simp] theorem Work.pull_base : w.pull.2.base = w.base := rfl
@[simp] theorem Work.pull_pageCross : w.pull.2.pageCross = w.pageCross := rfl
@[simp] theorem Work.pull_extra : w.pull.2.extra = w.extra := rfl
@[simp] theorem Work.pull_refusal : w.pull.2.refusal = w.refusal := rfl

theorem stackAddr_toNat (sp : Byte) : (stackAddr sp).toNat = 0x100 + sp.toNat := by
  have := sp.isLt
  have h1 : (1#8).toNat = 1 := rfl
  simp only [stackAddr, join, stackPage, BitVec.toNat_ofNat, BitVec.ofNat_eq_ofNat, h1]
  omega

/-- Two stack cells are the same only for the same offset. -/
theorem stackAddr_inj {p q : Byte} (h : stackAddr p = stackAddr q) : p = q := by
  have := congrArg BitVec.toNat h
  rw [stackAddr_toNat, stackAddr_toNat] at this
  exact BitVec.eq_of_toNat_eq (by omega)

@[simp] theorem stackAddr_eq_iff (p q : Byte) : stackAddr p = stackAddr q ↔ p = q := ⟨stackAddr_inj, congrArg _⟩

/-! ## The beginning and the end of an instruction -/

@[simp] theorem rejects_nil {c : Config} (h : c.busRejects = []) (b : Word) : rejects c b = false := by
  simp [rejects, h]

/-- On a bus that rejects none of the accesses made, a working copy with a meaning is committed whole. -/
theorem commit_next {s : State} {w : Work} (hr : w.refusal = none)
    (hl : ∀ x ∈ w.log, rejects s.cfg x.addr = false) :
    commit s w = .next (w.st.setAddrBus (w.ea.getD w.st.addrBus)) := by
  have : w.log.find? (fun x => rejects s.cfg x.addr) = none := by
    simpa [List.find?_eq_none] using hl
  simp [commit, hr, this]

/-- What a commit that answers a next state was. -/
theorem commit_eq_next {s t : State} {w : Work} (h : commit s w = .next t) :
    w.refusal = none ∧ (∀ x ∈ w.log, rejects s.cfg x.addr = false) ∧
      t = w.st.setAddrBus (w.ea.getD w.st.addrBus) := by
  unfold commit at h
  split at h
  · cases h
  · rename_i hr
    split at h
    · cases h
    · rename_i hl
      refine ⟨hr, fun x hx => ?_, (Host.Outcome.next.inj h).symm⟩
      simpa using (List.find?_eq_none.1 hl) x hx

end Sys2Proof.Machine
end

