-- ==== Sys2Proof/Laws/Resolver.lean ====
section
/-! SUPPORT. What the resolver and the handler's two helpers can do, said once (41_address_resolver.md R147, R148). -/

namespace Sys2Proof.Machine

/-- The resolver writes PC and the data latch only, and PC by the operand bytes (R131, R148). -/
theorem resolve_st (o : Operand) (w : Work) :
    ∃ d, (resolve o w).st = (w.st.setPC (w.st.pc + BitVec.ofNat 16 o.bytes.length)).setDataBus d := by
  have h2 : w.st.pc + 1 + 1 = w.st.pc + BitVec.ofNat 16 2 := by rw [BitVec.add_assoc]; rfl
  cases o
  case imp => exact ⟨w.st.dataBus, by simp [resolve, resolveMode, Operand.bytes, State.setPC, State.setDataBus]⟩
  case acc => exact ⟨w.st.dataBus, by simp [resolve, resolveMode, Operand.bytes, State.setPC, State.setDataBus]⟩
  case imm v => exact ⟨_, rfl⟩
  case zp b => exact ⟨_, rfl⟩
  case zpx b => exact ⟨_, rfl⟩
  case zpy b => exact ⟨_, rfl⟩
  case indx b => exact ⟨_, rfl⟩
  case indy b => exact ⟨_, rfl⟩
  case rel d => exact ⟨_, rfl⟩
  case abs a =>
    exact ⟨hi a, by
      show _ = (w.st.setPC (w.st.pc + BitVec.ofNat 16 2)).setDataBus _
      rw [← h2]; rfl⟩
  case absx a =>
    exact ⟨hi a, by
      show _ = (w.st.setPC (w.st.pc + BitVec.ofNat 16 2)).setDataBus _
      rw [← h2]; rfl⟩
  case absy a =>
    exact ⟨hi a, by
      show _ = (w.st.setPC (w.st.pc + BitVec.ofNat 16 2)).setDataBus _
      rw [← h2]; rfl⟩
  case ind a =>
    exact ⟨(resolve (.ind a) w).st.dataBus, by
      show _ = (w.st.setPC (w.st.pc + BitVec.ofNat 16 2)).setDataBus _
      rw [← h2]; rfl⟩

/-- The resolver leaves the handler's outputs as they were. -/
theorem resolve_extra (o : Operand) (w : Work) : (resolve o w).extra = w.extra := by cases o <;> rfl

theorem resolve_refusal (o : Operand) (w : Work) : (resolve o w).refusal = w.refusal := by cases o <;> rfl

@[simp] theorem resolve_mode (o : Operand) (w : Work) : (resolve o w).mode = o.mode := rfl

/-- The resolver adds reads to the log, and nothing else. -/
theorem resolve_log (o : Operand) (w : Work) :
    ∃ l, (resolve o w).log = w.log ++ l ∧ ∀ x ∈ l, x.isWrite = false := by
  cases o <;>
    simp [resolve, resolveMode, resolveImm, resolveZp, resolveZpIndexed, resolveAbs, resolveAbsIndexed, resolveInd,
      resolveIndx, resolveIndy, resolveRel, Work.deliver, Work.deliverFrom, Work.fetchWord, Work.read16ZP,
      Access.isWrite]

/-- `ReadOperand()` gives the operand byte and changes the data latch and the log at most. -/
theorem readOperand_fst (o : Operand) (s : State) :
    (readOperand (resolve o (start s))).1 = operandByte o s := by
  obtain ⟨d, hd⟩ := resolve_st o (start s)
  cases o <;> simp only [readOperand, operandByte, effectiveAddress, Work.target] <;> try rfl

theorem readOperand_st (w : Work) : ∃ d, (readOperand w).2.st = w.st.setDataBus d := by
  unfold readOperand
  split
  · exact ⟨w.st.dataBus, rfl⟩
  · split
    · exact ⟨w.st.dataBus, rfl⟩
    · exact ⟨_, rfl⟩

@[simp] theorem readOperand_mode (w : Work) : (readOperand w).2.mode = w.mode := by
  unfold readOperand; split <;> [rfl; (split <;> rfl)]

@[simp] theorem writeResult_mode (v : Byte) (w : Work) : (writeResult v w).mode = w.mode := by
  unfold writeResult; split <;> rfl

@[simp] theorem readOperand_ea (w : Work) : (readOperand w).2.ea = w.ea := by
  unfold readOperand; split <;> [rfl; (split <;> rfl)]

@[simp] theorem writeResult_ea (v : Byte) (w : Work) : (writeResult v w).ea = w.ea := by
  unfold writeResult; split <;> rfl

@[simp] theorem readOperand_pageCross (w : Work) : (readOperand w).2.pageCross = w.pageCross := by
  unfold readOperand; split <;> [rfl; (split <;> rfl)]

@[simp] theorem writeResult_pageCross (v : Byte) (w : Work) : (writeResult v w).pageCross = w.pageCross := by
  unfold writeResult; split <;> rfl

@[simp] theorem readOperand_extra (w : Work) : (readOperand w).2.extra = w.extra := by
  unfold readOperand; split <;> [rfl; (split <;> rfl)]

@[simp] theorem writeResult_extra (v : Byte) (w : Work) : (writeResult v w).extra = w.extra := by
  unfold writeResult; split <;> rfl

@[simp] theorem readOperand_refusal (w : Work) : (readOperand w).2.refusal = w.refusal := by
  unfold readOperand; split <;> [rfl; (split <;> rfl)]

@[simp] theorem writeResult_refusal (v : Byte) (w : Work) : (writeResult v w).refusal = w.refusal := by
  unfold writeResult; split <;> rfl

/-- `WriteResult(v)` in Accumulator mode. -/
theorem writeResult_acc {w : Work} (v : Byte) (h : w.mode = .acc) : writeResult v w = w.upd (State.setA v) := by
  simp [writeResult, h]

/-- `WriteResult(v)` in a memory mode. -/
theorem writeResult_mem {w : Work} (v : Byte) (h : w.mode ≠ .acc) : writeResult v w = w.write w.target v := by
  simp [writeResult, h]

end Sys2Proof.Machine
end

