-- ==== Sys2Proof/Laws/Exec.lean ====
section
/-! SUPPORT. Every meaning of `exec` in one shape: resolve, run the mnemonic's handler, commit. -/

namespace Sys2Proof.Machine

/-- An instruction is the commit of its working copy (47_fetch_decode_step.md R286). -/
theorem exec_eq_commit (i : Instr) (s : State) : exec i s = commit s (work i s) := by cases i <;> rfl

/-- On the array bus an instruction with a meaning completes, with what its handler left. -/
theorem exec_next {i : Instr} {s : State} (hb : OnArrayBus s) (hr : (work i s).refusal = none) :
    exec i s = .next ((work i s).st.setAddrBus ((work i s).ea.getD (work i s).st.addrBus)) := by
  rw [exec_eq_commit]
  exact commit_next hr (fun x _ => rejects_nil hb x.addr)

/-- What an instruction that completes left. -/
theorem exec_eq_next {i : Instr} {s t : State} (h : exec i s = .next t) :
    (work i s).refusal = none ∧ (∀ x ∈ (work i s).log, rejects s.cfg x.addr = false) ∧
      t = (work i s).st.setAddrBus ((work i s).ea.getD (work i s).st.addrBus) := by
  rw [exec_eq_commit] at h
  exact commit_eq_next h

/-- Every instruction that reads or writes memory through the effective address has a mode that yields one (log entry 3). -/
theorem effectiveAddress_isSome (o : Operand) (s : State) :
    (effectiveAddress o s).isSome = true ↔ o.mode ≠ .imp ∧ o.mode ≠ .acc ∧ o.mode ≠ .imm := by
  cases o <;> simp [effectiveAddress, resolve, resolveMode, resolveImm, resolveZp, resolveZpIndexed, resolveAbs,
    resolveAbsIndexed, resolveInd, resolveIndx, resolveIndy, resolveRel, Work.deliver, Work.deliverFrom, Operand.mode]

/-- The mode that names A is that of no other instruction than a shift or rotate. -/
theorem mode_acc {i : Instr} (h : i.mode = .acc) : i = .aslAcc ∨ i = .lsrAcc ∨ i = .rolAcc ∨ i = .rorAcc := by
  cases i <;> first | exact Mode.noConfusion h | simp

end Sys2Proof.Machine
end

