-- ==== Sys2Proof/Laws/PerInstr.lean ====
section
/-! SUPPORT. The family `TableEntry` (LAWS.json): for every instruction, the opcode table has a row under its opcode and
the row's form takes its operand bytes back to the instruction. One lemma per constructor of `Instr`. -/

namespace Sys2Proof.Laws

/-- The two halves of a word join to it again. -/
theorem join_hi_lo (w : Word) : join (hi w) (lo w) = w := by
  apply BitVec.eq_of_toNat_eq
  simp only [join, hi, lo, BitVec.toNat_ofNat]
  omega

@[simp] theorem lo_join (h l : Byte) : lo (join h l) = l := by
  apply BitVec.eq_of_toNat_eq
  simp only [join, lo, BitVec.toNat_ofNat]
  omega

@[simp] theorem hi_join (h l : Byte) : hi (join h l) = h := by
  apply BitVec.eq_of_toNat_eq
  simp only [join, hi, BitVec.toNat_ofNat]
  omega

namespace TableEntry

/-- The table's row for the instruction's opcode makes the instruction of its operand bytes. -/
def Statement (i : Instr) : Prop :=
  ∃ r, findRow i.opcode = some r ∧ r.opcode = i.opcode ∧ ∀ rest, r.form.take (i.operand.bytes ++ rest) = .instr i rest

/-- A row of format F1. -/
theorem of_f1 {i : Instr} {n : Nat} {p : Bool} (h : findRow i.opcode = some ⟨i.opcode, .f1 i, n, p⟩)
    (hb : i.operand.bytes = []) : Statement i :=
  ⟨_, h, rfl, fun rest => by rw [hb]; rfl⟩

/-- A row of format F2. -/
theorem of_f2 {i : Instr} {make : Byte → Instr} {b : Byte} {n : Nat} {p : Bool}
    (h : findRow i.opcode = some ⟨i.opcode, .f2 make, n, p⟩) (hb : i.operand.bytes = [b]) (hm : make b = i) :
    Statement i :=
  ⟨_, h, rfl, fun rest => by rw [hb, ← hm]; rfl⟩

/-- A row of format F3. -/
theorem of_f3 {i : Instr} {make : Word → Instr} {a : Word} {n : Nat} {p : Bool}
    (h : findRow i.opcode = some ⟨i.opcode, .f3 make, n, p⟩) (hb : i.operand.bytes = [lo a, hi a]) (hm : make a = i) :
    Statement i :=
  ⟨_, h, rfl, fun rest => by
    rw [hb, ← hm]
    show Decoded.instr (make (join (hi a) (lo a))) rest = _
    rw [join_hi_lo]⟩

theorem ldaImm (v : Byte) : Statement (.ldaImm v) := of_f2 rfl rfl rfl
theorem ldaZp (b : Byte) : Statement (.ldaZp b) := of_f2 rfl rfl rfl
theorem ldaZpx (b : Byte) : Statement (.ldaZpx b) := of_f2 rfl rfl rfl
theorem ldaAbs (a : Word) : Statement (.ldaAbs a) := of_f3 rfl rfl rfl
theorem ldaAbsx (a : Word) : Statement (.ldaAbsx a) := of_f3 rfl rfl rfl
theorem ldaAbsy (a : Word) : Statement (.ldaAbsy a) := of_f3 rfl rfl rfl
theorem ldaIndx (b : Byte) : Statement (.ldaIndx b) := of_f2 rfl rfl rfl
theorem ldaIndy (b : Byte) : Statement (.ldaIndy b) := of_f2 rfl rfl rfl
theorem ldxImm (v : Byte) : Statement (.ldxImm v) := of_f2 rfl rfl rfl
theorem ldxZp (b : Byte) : Statement (.ldxZp b) := of_f2 rfl rfl rfl
theorem ldxZpy (b : Byte) : Statement (.ldxZpy b) := of_f2 rfl rfl rfl
theorem ldxAbs (a : Word) : Statement (.ldxAbs a) := of_f3 rfl rfl rfl
theorem ldxAbsy (a : Word) : Statement (.ldxAbsy a) := of_f3 rfl rfl rfl
theorem ldyImm (v : Byte) : Statement (.ldyImm v) := of_f2 rfl rfl rfl
theorem ldyZp (b : Byte) : Statement (.ldyZp b) := of_f2 rfl rfl rfl
theorem ldyZpx (b : Byte) : Statement (.ldyZpx b) := of_f2 rfl rfl rfl
theorem ldyAbs (a : Word) : Statement (.ldyAbs a) := of_f3 rfl rfl rfl
theorem ldyAbsx (a : Word) : Statement (.ldyAbsx a) := of_f3 rfl rfl rfl
theorem staZp (b : Byte) : Statement (.staZp b) := of_f2 rfl rfl rfl
theorem staZpx (b : Byte) : Statement (.staZpx b) := of_f2 rfl rfl rfl
theorem staAbs (a : Word) : Statement (.staAbs a) := of_f3 rfl rfl rfl
theorem staAbsx (a : Word) : Statement (.staAbsx a) := of_f3 rfl rfl rfl
theorem staAbsy (a : Word) : Statement (.staAbsy a) := of_f3 rfl rfl rfl
theorem staIndx (b : Byte) : Statement (.staIndx b) := of_f2 rfl rfl rfl
theorem staIndy (b : Byte) : Statement (.staIndy b) := of_f2 rfl rfl rfl
theorem stxZp (b : Byte) : Statement (.stxZp b) := of_f2 rfl rfl rfl
theorem stxZpy (b : Byte) : Statement (.stxZpy b) := of_f2 rfl rfl rfl
theorem stxAbs (a : Word) : Statement (.stxAbs a) := of_f3 rfl rfl rfl
theorem styZp (b : Byte) : Statement (.styZp b) := of_f2 rfl rfl rfl
theorem styZpx (b : Byte) : Statement (.styZpx b) := of_f2 rfl rfl rfl
theorem styAbs (a : Word) : Statement (.styAbs a) := of_f3 rfl rfl rfl
theorem tax : Statement (.tax) := of_f1 rfl rfl
theorem tay : Statement (.tay) := of_f1 rfl rfl
theorem txa : Statement (.txa) := of_f1 rfl rfl
theorem tya : Statement (.tya) := of_f1 rfl rfl
theorem tsx : Statement (.tsx) := of_f1 rfl rfl
theorem txs : Statement (.txs) := of_f1 rfl rfl
theorem adcImm (v : Byte) : Statement (.adcImm v) := of_f2 rfl rfl rfl
theorem adcZp (b : Byte) : Statement (.adcZp b) := of_f2 rfl rfl rfl
theorem adcZpx (b : Byte) : Statement (.adcZpx b) := of_f2 rfl rfl rfl
theorem adcAbs (a : Word) : Statement (.adcAbs a) := of_f3 rfl rfl rfl
theorem adcAbsx (a : Word) : Statement (.adcAbsx a) := of_f3 rfl rfl rfl
theorem adcAbsy (a : Word) : Statement (.adcAbsy a) := of_f3 rfl rfl rfl
theorem adcIndx (b : Byte) : Statement (.adcIndx b) := of_f2 rfl rfl rfl
theorem adcIndy (b : Byte) : Statement (.adcIndy b) := of_f2 rfl rfl rfl
theorem sbcImm (v : Byte) : Statement (.sbcImm v) := of_f2 rfl rfl rfl
theorem sbcZp (b : Byte) : Statement (.sbcZp b) := of_f2 rfl rfl rfl
theorem sbcZpx (b : Byte) : Statement (.sbcZpx b) := of_f2 rfl rfl rfl
theorem sbcAbs (a : Word) : Statement (.sbcAbs a) := of_f3 rfl rfl rfl
theorem sbcAbsx (a : Word) : Statement (.sbcAbsx a) := of_f3 rfl rfl rfl
theorem sbcAbsy (a : Word) : Statement (.sbcAbsy a) := of_f3 rfl rfl rfl
theorem sbcIndx (b : Byte) : Statement (.sbcIndx b) := of_f2 rfl rfl rfl
theorem sbcIndy (b : Byte) : Statement (.sbcIndy b) := of_f2 rfl rfl rfl
theorem andImm (v : Byte) : Statement (.andImm v) := of_f2 rfl rfl rfl
theorem andZp (b : Byte) : Statement (.andZp b) := of_f2 rfl rfl rfl
theorem andZpx (b : Byte) : Statement (.andZpx b) := of_f2 rfl rfl rfl
theorem andAbs (a : Word) : Statement (.andAbs a) := of_f3 rfl rfl rfl
theorem andAbsx (a : Word) : Statement (.andAbsx a) := of_f3 rfl rfl rfl
theorem andAbsy (a : Word) : Statement (.andAbsy a) := of_f3 rfl rfl rfl
theorem andIndx (b : Byte) : Statement (.andIndx b) := of_f2 rfl rfl rfl
theorem andIndy (b : Byte) : Statement (.andIndy b) := of_f2 rfl rfl rfl
theorem oraImm (v : Byte) : Statement (.oraImm v) := of_f2 rfl rfl rfl
theorem oraZp (b : Byte) : Statement (.oraZp b) := of_f2 rfl rfl rfl
theorem oraZpx (b : Byte) : Statement (.oraZpx b) := of_f2 rfl rfl rfl
theorem oraAbs (a : Word) : Statement (.oraAbs a) := of_f3 rfl rfl rfl
theorem oraAbsx (a : Word) : Statement (.oraAbsx a) := of_f3 rfl rfl rfl
theorem oraAbsy (a : Word) : Statement (.oraAbsy a) := of_f3 rfl rfl rfl
theorem oraIndx (b : Byte) : Statement (.oraIndx b) := of_f2 rfl rfl rfl
theorem oraIndy (b : Byte) : Statement (.oraIndy b) := of_f2 rfl rfl rfl
theorem eorImm (v : Byte) : Statement (.eorImm v) := of_f2 rfl rfl rfl
theorem eorZp (b : Byte) : Statement (.eorZp b) := of_f2 rfl rfl rfl
theorem eorZpx (b : Byte) : Statement (.eorZpx b) := of_f2 rfl rfl rfl
theorem eorAbs (a : Word) : Statement (.eorAbs a) := of_f3 rfl rfl rfl
theorem eorAbsx (a : Word) : Statement (.eorAbsx a) := of_f3 rfl rfl rfl
theorem eorAbsy (a : Word) : Statement (.eorAbsy a) := of_f3 rfl rfl rfl
theorem eorIndx (b : Byte) : Statement (.eorIndx b) := of_f2 rfl rfl rfl
theorem eorIndy (b : Byte) : Statement (.eorIndy b) := of_f2 rfl rfl rfl
theorem bitZp (b : Byte) : Statement (.bitZp b) := of_f2 rfl rfl rfl
theorem bitAbs (a : Word) : Statement (.bitAbs a) := of_f3 rfl rfl rfl
theorem cmpImm (v : Byte) : Statement (.cmpImm v) := of_f2 rfl rfl rfl
theorem cmpZp (b : Byte) : Statement (.cmpZp b) := of_f2 rfl rfl rfl
theorem cmpZpx (b : Byte) : Statement (.cmpZpx b) := of_f2 rfl rfl rfl
theorem cmpAbs (a : Word) : Statement (.cmpAbs a) := of_f3 rfl rfl rfl
theorem cmpAbsx (a : Word) : Statement (.cmpAbsx a) := of_f3 rfl rfl rfl
theorem cmpAbsy (a : Word) : Statement (.cmpAbsy a) := of_f3 rfl rfl rfl
theorem cmpIndx (b : Byte) : Statement (.cmpIndx b) := of_f2 rfl rfl rfl
theorem cmpIndy (b : Byte) : Statement (.cmpIndy b) := of_f2 rfl rfl rfl
theorem cpxImm (v : Byte) : Statement (.cpxImm v) := of_f2 rfl rfl rfl
theorem cpxZp (b : Byte) : Statement (.cpxZp b) := of_f2 rfl rfl rfl
theorem cpxAbs (a : Word) : Statement (.cpxAbs a) := of_f3 rfl rfl rfl
theorem cpyImm (v : Byte) : Statement (.cpyImm v) := of_f2 rfl rfl rfl
theorem cpyZp (b : Byte) : Statement (.cpyZp b) := of_f2 rfl rfl rfl
theorem cpyAbs (a : Word) : Statement (.cpyAbs a) := of_f3 rfl rfl rfl
theorem incZp (b : Byte) : Statement (.incZp b) := of_f2 rfl rfl rfl
theorem incZpx (b : Byte) : Statement (.incZpx b) := of_f2 rfl rfl rfl
theorem incAbs (a : Word) : Statement (.incAbs a) := of_f3 rfl rfl rfl
theorem incAbsx (a : Word) : Statement (.incAbsx a) := of_f3 rfl rfl rfl
theorem decZp (b : Byte) : Statement (.decZp b) := of_f2 rfl rfl rfl
theorem decZpx (b : Byte) : Statement (.decZpx b) := of_f2 rfl rfl rfl
theorem decAbs (a : Word) : Statement (.decAbs a) := of_f3 rfl rfl rfl
theorem decAbsx (a : Word) : Statement (.decAbsx a) := of_f3 rfl rfl rfl
theorem inx : Statement (.inx) := of_f1 rfl rfl
theorem iny : Statement (.iny) := of_f1 rfl rfl
theorem dex : Statement (.dex) := of_f1 rfl rfl
theorem dey : Statement (.dey) := of_f1 rfl rfl
theorem aslAcc : Statement (.aslAcc) := of_f1 rfl rfl
theorem aslZp (b : Byte) : Statement (.aslZp b) := of_f2 rfl rfl rfl
theorem aslZpx (b : Byte) : Statement (.aslZpx b) := of_f2 rfl rfl rfl
theorem aslAbs (a : Word) : Statement (.aslAbs a) := of_f3 rfl rfl rfl
theorem aslAbsx (a : Word) : Statement (.aslAbsx a) := of_f3 rfl rfl rfl
theorem lsrAcc : Statement (.lsrAcc) := of_f1 rfl rfl
theorem lsrZp (b : Byte) : Statement (.lsrZp b) := of_f2 rfl rfl rfl
theorem lsrZpx (b : Byte) : Statement (.lsrZpx b) := of_f2 rfl rfl rfl
theorem lsrAbs (a : Word) : Statement (.lsrAbs a) := of_f3 rfl rfl rfl
theorem lsrAbsx (a : Word) : Statement (.lsrAbsx a) := of_f3 rfl rfl rfl
theorem rolAcc : Statement (.rolAcc) := of_f1 rfl rfl
theorem rolZp (b : Byte) : Statement (.rolZp b) := of_f2 rfl rfl rfl
theorem rolZpx (b : Byte) : Statement (.rolZpx b) := of_f2 rfl rfl rfl
theorem rolAbs (a : Word) : Statement (.rolAbs a) := of_f3 rfl rfl rfl
theorem rolAbsx (a : Word) : Statement (.rolAbsx a) := of_f3 rfl rfl rfl
theorem rorAcc : Statement (.rorAcc) := of_f1 rfl rfl
theorem rorZp (b : Byte) : Statement (.rorZp b) := of_f2 rfl rfl rfl
theorem rorZpx (b : Byte) : Statement (.rorZpx b) := of_f2 rfl rfl rfl
theorem rorAbs (a : Word) : Statement (.rorAbs a) := of_f3 rfl rfl rfl
theorem rorAbsx (a : Word) : Statement (.rorAbsx a) := of_f3 rfl rfl rfl
theorem bcc (d : Byte) : Statement (.bcc d) := of_f2 rfl rfl rfl
theorem bcs (d : Byte) : Statement (.bcs d) := of_f2 rfl rfl rfl
theorem beq (d : Byte) : Statement (.beq d) := of_f2 rfl rfl rfl
theorem bne (d : Byte) : Statement (.bne d) := of_f2 rfl rfl rfl
theorem bmi (d : Byte) : Statement (.bmi d) := of_f2 rfl rfl rfl
theorem bpl (d : Byte) : Statement (.bpl d) := of_f2 rfl rfl rfl
theorem bvc (d : Byte) : Statement (.bvc d) := of_f2 rfl rfl rfl
theorem bvs (d : Byte) : Statement (.bvs d) := of_f2 rfl rfl rfl
theorem jmpAbs (a : Word) : Statement (.jmpAbs a) := of_f3 rfl rfl rfl
theorem jmpInd (a : Word) : Statement (.jmpInd a) := of_f3 rfl rfl rfl
theorem jsr (a : Word) : Statement (.jsr a) := of_f3 rfl rfl rfl
theorem rts : Statement (.rts) := of_f1 rfl rfl
theorem pha : Statement (.pha) := of_f1 rfl rfl
theorem php : Statement (.php) := of_f1 rfl rfl
theorem pla : Statement (.pla) := of_f1 rfl rfl
theorem plp : Statement (.plp) := of_f1 rfl rfl
theorem clc : Statement (.clc) := of_f1 rfl rfl
theorem sec : Statement (.sec) := of_f1 rfl rfl
theorem cli : Statement (.cli) := of_f1 rfl rfl
theorem sei : Statement (.sei) := of_f1 rfl rfl
theorem cld : Statement (.cld) := of_f1 rfl rfl
theorem sed : Statement (.sed) := of_f1 rfl rfl
theorem clv : Statement (.clv) := of_f1 rfl rfl
theorem nop : Statement (.nop) := of_f1 rfl rfl
theorem brk : Statement (.brk) := of_f1 rfl rfl
theorem rti : Statement (.rti) := of_f1 rfl rfl

end TableEntry

end Sys2Proof.Laws
end

