-- ==== Sys2Proof/Laws/Decoding.lean ====
section
/-! SUPPORT. The decoder from the table's side, and the step in terms of it: what a row found in the table is, what a
successful decode says of the bytes at PC, and what a step that answers a next state was. -/

namespace Sys2Proof.Laws

/-- The operand bytes a form has, for the two bytes after the opcode. -/
def formBytes (l h : Byte) : Form → List Byte
  | .f1 _ => []
  | .f2 _ => [l]
  | .f3 _ => [lo (join h l), hi (join h l)]

/-- A row is sound when the instruction it makes of any operand bytes encodes to its opcode and those bytes, and its
mnemonic does not depend on them. -/
def RowSound (r : Row) : Prop :=
  ∀ l h : Byte, encode (r.form.fill l h) = r.opcode :: formBytes l h r.form ∧
    (r.form.fill l h).mnemonic = (r.form.fill 0 0).mnemonic

/-- Every row of the table is sound: the table against the encoder (30_encoding.md R86, R87). -/
theorem rows_sound : ∀ r ∈ OpcodeTable.rows, RowSound r := by
  intro r hr
  simp only [OpcodeTable.rows, List.mem_append] at hr
  rcases hr with (((((((((((((((hr | hr) | hr) | hr) | hr) | hr) | hr) | hr) | hr) | hr) | hr) | hr) | hr) | hr) | hr) | hr)
  all_goals
    simp only [OpcodeTable.row0x, OpcodeTable.row1x, OpcodeTable.row2x, OpcodeTable.row3x, OpcodeTable.row4x,
      OpcodeTable.row5x, OpcodeTable.row6x, OpcodeTable.row7x, OpcodeTable.row8x, OpcodeTable.row9x, OpcodeTable.rowAx,
      OpcodeTable.rowBx, OpcodeTable.rowCx, OpcodeTable.rowDx, OpcodeTable.rowEx, OpcodeTable.rowFx, List.mem_cons,
      List.not_mem_nil, or_false] at hr
    repeat (rcases hr with rfl | hr; · exact fun _ _ => ⟨rfl, by simp only [Form.fill, Instr.mnemonic]⟩)

/-- What the decoder's table answers is a row of the table, under that opcode, shown if only shown rows are mapped. -/
theorem lookup_eq_some {profile : TableProfile} {op : Byte} {r : Row} (h : lookup profile op = some r) :
    findRow op = some r ∧ r ∈ OpcodeTable.rows ∧ r.opcode = op ∧ (profile = .sourceShown → op ∈ shownOpcodes) := by
  have hf : findRow op = some r ∧ (profile = .sourceShown → op ∈ shownOpcodes) := by
    cases profile with
    | full => exact ⟨h, nofun⟩
    | sourceShown =>
      simp only [lookup] at h
      split at h
      · exact ⟨h, fun _ => ‹_›⟩
      · cases h
  exact ⟨hf.1, List.mem_of_find?_eq_some hf.1, by simpa using List.find?_some hf.1, hf.2⟩

end Sys2Proof.Laws

namespace Sys2Proof.Machine

/-- No table entry for the byte at PC: no instruction there (47_fetch_decode_step.md R283). -/
theorem decodeAt_eq_none {s : State} (h : lookup s.cfg.tableProfile (s.byteAt s.pc) = none) : decodeAt s = none := by
  unfold decodeAt fetchWindow decode
  simp only [h]
  rfl

/-- A table entry for the byte at PC: memory from PC on holds the instruction of that row. -/
theorem decodeAt_eq_fill {s : State} {r : Row} (h : lookup s.cfg.tableProfile (s.byteAt s.pc) = some r) :
    decodeAt s = some (r.form.fill (s.byteAt (s.pc + 1)) (s.byteAt (s.pc + 2))) := by
  unfold decodeAt fetchWindow decode
  simp only [h]
  cases r.form <;> rfl

/-- The bytes at PC are those of the instruction decoded there (30_encoding.md R80). -/
theorem decodeAt_bytes {s : State} {i : Instr} (h : decodeAt s = some i) :
    s.byteAt s.pc = i.opcode ∧ (∀ b, i.operand.bytes[0]? = some b → s.byteAt (s.pc + 1) = b) ∧
      ∀ b, i.operand.bytes[1]? = some b → s.byteAt (s.pc + 2) = b := by
  cases hr : lookup s.cfg.tableProfile (s.byteAt s.pc) with
  | none => rw [decodeAt_eq_none hr] at h; cases h
  | some r =>
    rw [decodeAt_eq_fill hr] at h
    cases h
    obtain ⟨-, hm, ho, -⟩ := Laws.lookup_eq_some hr
    have hs := (Laws.rows_sound r hm (s.byteAt (s.pc + 1)) (s.byteAt (s.pc + 2))).1
    injection hs with h1 h2
    refine ⟨by rw [h1, ho], ?_, ?_⟩ <;> rw [h2] <;> cases r.form <;> simp [Laws.formBytes]

/-- A step that answers a next state ran the instruction at PC. -/
theorem step_eq_next {s t : State} (h : step s = .next t) :
    rejects s.cfg s.pc = false ∧ ∃ i, decodeAt s = some i ∧ exec i (fetchUnit s) = .next t := by
  unfold step at h
  split at h
  · cases h
  · rename_i hr
    split at h
    · cases h
    · exact ⟨Bool.eq_false_iff.2 hr, _, ‹_›, h⟩

end Sys2Proof.Machine
end

