-- ==== Sys2Proof/Laws/Handlers.lean ====
section
/-! SUPPORT. What the operations the handlers share do, said once: the 16-bit stack and bus accesses, the software trap
and the return from it, the flag groups, ADC's and SBC's guard, the branch; and, for the statements about memory, what
one store is in terms of `MemoryStored`. -/

namespace Sys2Proof.Machine

variable (w : Work)

/-! ## 16-bit accesses -/

/-- A 16-bit push (20_memory.md R56): high byte first, SP down by two. -/
theorem Work.push16_st (v : Word) :
    (w.push16 v).st = (((w.st.store (stackAddr w.st.sp) (hi v)).store (stackAddr (w.st.sp - 1)) (lo v)).setDataBus
      (lo v)).setSP (w.st.sp - 2) := by
  have e : w.st.sp - 1 - 1 = w.st.sp - 2 := by bv_omega
  rw [← e]; rfl

theorem Work.push16_log (v : Word) :
    (w.push16 v).log = w.log ++ [.write (stackAddr w.st.sp) (hi v), .write (stackAddr (w.st.sp - 1)) (lo v)] := by
  simp [Work.push16]

@[simp] theorem Work.push16_mode (v : Word) : (w.push16 v).mode = w.mode := rfl
@[simp] theorem Work.push16_ea (v : Word) : (w.push16 v).ea = w.ea := rfl
@[simp] theorem Work.push16_pageCross (v : Word) : (w.push16 v).pageCross = w.pageCross := rfl
@[simp] theorem Work.push16_extra (v : Word) : (w.push16 v).extra = w.extra := rfl
@[simp] theorem Work.push16_refusal (v : Word) : (w.push16 v).refusal = w.refusal := rfl

/-- A 16-bit pull: low byte first, SP up by two. -/
theorem Work.pull16_fst :
    w.pull16.1 = join (w.st.byteAt (stackAddr (w.st.sp + 2))) (w.st.byteAt (stackAddr (w.st.sp + 1))) := by
  have e : w.st.sp + 1 + 1 = w.st.sp + 2 := by bv_omega
  rw [← e]; rfl

theorem Work.pull16_st :
    w.pull16.2.st = (w.st.setSP (w.st.sp + 2)).setDataBus (w.st.byteAt (stackAddr (w.st.sp + 2))) := by
  have e : w.st.sp + 1 + 1 = w.st.sp + 2 := by bv_omega
  rw [← e]; rfl

theorem Work.pull16_log :
    w.pull16.2.log = w.log ++ [.read (stackAddr (w.st.sp + 1)) (w.st.byteAt (stackAddr (w.st.sp + 1))),
      .read (stackAddr (w.st.sp + 2)) (w.st.byteAt (stackAddr (w.st.sp + 2)))] := by
  have e : w.st.sp + 1 + 1 = w.st.sp + 2 := by bv_omega
  rw [← e, show [Access.read (stackAddr (w.st.sp + 1)) (w.st.byteAt (stackAddr (w.st.sp + 1))),
      Access.read (stackAddr (w.st.sp + 1 + 1)) (w.st.byteAt (stackAddr (w.st.sp + 1 + 1)))] =
    [.read (stackAddr (w.st.sp + 1)) (w.st.byteAt (stackAddr (w.st.sp + 1)))] ++
      [.read (stackAddr (w.st.sp + 1 + 1)) (w.st.byteAt (stackAddr (w.st.sp + 1 + 1)))] from rfl, ← List.append_assoc]
  rfl

@[simp] theorem Work.pull16_mode : w.pull16.2.mode = w.mode := rfl
@[simp] theorem Work.pull16_ea : w.pull16.2.ea = w.ea := rfl
@[simp] theorem Work.pull16_pageCross : w.pull16.2.pageCross = w.pageCross := rfl
@[simp] theorem Work.pull16_extra : w.pull16.2.extra = w.extra := rfl
@[simp] theorem Work.pull16_refusal : w.pull16.2.refusal = w.refusal := rfl

/-- A 16-bit read gives the two bytes and moves the second one last. -/
theorem Work.read16_fst (b : Word) : (w.read16 b).1 = join (w.st.byteAt (b + 1)) (w.st.byteAt b) := rfl

theorem Work.read16_st (b : Word) : (w.read16 b).2.st = w.st.setDataBus (w.st.byteAt (b + 1)) := rfl

/-! ## The software trap -/

/-- No stack cell is one of the two bytes of the BRK vector (46_stack_flags_system.md R262). -/
theorem stackAddr_ne_vector (p : Byte) : brkVector ≠ stackAddr p ∧ brkVector + 1 ≠ stackAddr p := by
  have h1 : brkVector.toNat = 65534 := rfl
  have h2 : (brkVector + 1).toNat = 65535 := rfl
  have hp := p.isLt
  constructor <;> intro h <;> have e := congrArg BitVec.toNat h <;> rw [stackAddr_toNat] at e <;> omega

/-- Memory after the three pushes of the trap. -/
def trapFrame (ret : Word) (s : State) : State :=
  ((s.store (stackAddr s.sp) (hi ret)).store (stackAddr (s.sp - 1)) (lo ret)).store (stackAddr (s.sp - 2))
    (pushedStatus s.p)

/-- Memory outside the three stack cells is as before. -/
theorem trapFrame_byteAt_ne (ret : Word) (s : State) {b : Word} (h : ∀ p, b ≠ stackAddr p) :
    (trapFrame ret s).byteAt b = s.byteAt b := by
  rw [trapFrame, State.store_byteAt_ne _ _ (h _), State.store_byteAt_ne _ _ (h _), State.store_byteAt_ne _ _ (h _)]

/-- Memory is equal data when only registers differ. -/
theorem State.byteAt_congr {s t : State} (h : s.mem = t.mem) (b : Word) : s.byteAt b = t.byteAt b := by
  simp only [State.byteAt, h]

/-- Taking the trap through the BRK vector: three bytes pushed, I set, PC from the vector. -/
theorem Work.takeTrap_st (ret : Word) :
    ∃ d, (w.takeTrap ret brkVector).st = ((((trapFrame ret w.st).setSP (w.st.sp - 3)).setP
      (Machine.setFlag .I true w.st.p)).setDataBus d).setPC
        (join (w.st.byteAt (brkVector + 1)) (w.st.byteAt brkVector)) := by
  have e : w.st.sp - 2#8 - 1#8 = w.st.sp - 3#8 := by bv_omega
  have hb : ∀ t : State, t.mem = (trapFrame ret w.st).mem → ∀ b : Word, (∀ p, b ≠ stackAddr p) →
      t.byteAt b = w.st.byteAt b := by
    intro t ht b h
    rw [State.byteAt_congr ht, trapFrame_byteAt_ne ret w.st h]
  refine ⟨w.st.byteAt (brkVector + 1), ?_⟩
  simp only [Work.takeTrap, Work.upd_st, Work.read16_fst, Work.read16_st, Work.setFlag_st, Work.push_st,
    Work.push16_st, State.setSP_sp]
  rw [hb _ (by simp [trapFrame]) _ fun p => (stackAddr_ne_vector p).2,
    hb _ (by simp [trapFrame]) _ fun p => (stackAddr_ne_vector p).1]
  simp [trapFrame, e, State.setPC, State.setDataBus, State.setSP, State.store, State.setMem, State.setP]

/-- The accesses of the trap: three pushes, then the two reads of the vector, low byte first. -/
theorem Work.takeTrap_log (ret : Word) :
    (w.takeTrap ret brkVector).log = w.log ++ [.write (stackAddr w.st.sp) (hi ret),
      .write (stackAddr (w.st.sp - 1)) (lo ret), .write (stackAddr (w.st.sp - 2)) (pushedStatus w.st.p),
      .read brkVector (w.st.byteAt brkVector), .read (brkVector + 1) (w.st.byteAt (brkVector + 1))] := by
  have hb : ∀ t : State, t.mem = (trapFrame ret w.st).mem → ∀ b : Word, (∀ p, b ≠ stackAddr p) →
      t.byteAt b = w.st.byteAt b := by
    intro t ht b h
    rw [State.byteAt_congr ht, trapFrame_byteAt_ne ret w.st h]
  simp only [Work.takeTrap, Work.upd_log, Work.read16, Work.read_log, Work.read_st, Work.setFlag_st, Work.setFlag_log,
    Work.push_log, Work.push_st, Work.push16_log, Work.push16_st]
  rw [hb _ (by simp [trapFrame]) _ fun p => (stackAddr_ne_vector p).1,
    hb _ (by simp [trapFrame]) _ fun p => (stackAddr_ne_vector p).2]
  simp

/-- The trap changes the registers, memory and the log only. -/
theorem Work.takeTrap_rest (ret v : Word) :
    (w.takeTrap ret v).ea = w.ea ∧ (w.takeTrap ret v).extra = w.extra ∧ (w.takeTrap ret v).refusal = w.refusal := by
  simp [Work.takeTrap, Work.read16, Work.push16]

/-- Returning from the trap: six flags and PC from the stack, SP up by three. -/
theorem Work.returnFromTrap_st :
    ∃ d, w.returnFromTrap.st = (((w.st.setSP (w.st.sp + 3)).setP
      (setPulledFlags (w.st.byteAt (stackAddr (w.st.sp + 1))) w.st.p)).setDataBus d).setPC
        (join (w.st.byteAt (stackAddr (w.st.sp + 3))) (w.st.byteAt (stackAddr (w.st.sp + 2)))) := by
  have e1 : w.st.sp + 1#8 + 1#8 = w.st.sp + 2#8 := by bv_omega
  have e2 : w.st.sp + 1#8 + 2#8 = w.st.sp + 3#8 := by bv_omega
  refine ⟨w.st.byteAt (stackAddr (w.st.sp + 3)), ?_⟩
  simp only [Work.returnFromTrap, Work.pullStatus, Work.upd_st, Work.pull_fst, Work.pull_st, Work.pull16_fst,
    Work.pull16_st, State.setP_sp, State.setDataBus_sp, State.setSP_sp]
  simp [e1, e2, State.setPC, State.setDataBus, State.setSP, State.setP]
  simp [State.byteAt]

/-- The accesses of the return: three pulls. -/
theorem Work.returnFromTrap_log :
    w.returnFromTrap.log = w.log ++ [.read (stackAddr (w.st.sp + 1)) (w.st.byteAt (stackAddr (w.st.sp + 1))),
      .read (stackAddr (w.st.sp + 2)) (w.st.byteAt (stackAddr (w.st.sp + 2))),
      .read (stackAddr (w.st.sp + 3)) (w.st.byteAt (stackAddr (w.st.sp + 3)))] := by
  have e1 : w.st.sp + 1#8 + 1#8 = w.st.sp + 2#8 := by bv_omega
  have e2 : w.st.sp + 1#8 + 2#8 = w.st.sp + 3#8 := by bv_omega
  simp [Work.returnFromTrap, Work.pullStatus, Work.pull16_log, e1, e2]

/-- The return changes the registers and the log only. -/
theorem Work.returnFromTrap_rest :
    w.returnFromTrap.ea = w.ea ∧ w.returnFromTrap.extra = w.extra ∧ w.returnFromTrap.refusal = w.refusal := by
  simp [Work.returnFromTrap, Work.pullStatus]

/-! ## Flag groups, the guard of ADC and SBC, the branch -/

@[simp] theorem setCNZ_st (q : Carried) :
    (setCNZ q w).st = w.st.setP (Machine.setNZ q.r (Machine.setFlag .C q.cout w.st.p)) := rfl
@[simp] theorem setCNZ_log (q : Carried) : (setCNZ q w).log = w.log := rfl
@[simp] theorem setCNZ_ea (q : Carried) : (setCNZ q w).ea = w.ea := rfl
@[simp] theorem setCNZ_extra (q : Carried) : (setCNZ q w).extra = w.extra := rfl
@[simp] theorem setCNZ_refusal (q : Carried) : (setCNZ q w).refusal = w.refusal := rfl

@[simp] theorem addToA_st (q : Sum) :
    (addToA q w).st = (w.st.setA q.r).setP (Machine.setNZ q.r (Machine.setFlag .V q.vout
      (Machine.setFlag .C q.cout w.st.p))) := rfl
@[simp] theorem addToA_log (q : Sum) : (addToA q w).log = w.log := rfl
@[simp] theorem addToA_ea (q : Sum) : (addToA q w).ea = w.ea := rfl
@[simp] theorem addToA_extra (q : Sum) : (addToA q w).extra = w.extra := rfl
@[simp] theorem addToA_refusal (q : Sum) : (addToA q w).refusal = w.refusal := rfl

@[simp] theorem decimalGuard_st : (decimalGuard w).st = w.st := by unfold decimalGuard; split <;> rfl
@[simp] theorem decimalGuard_log : (decimalGuard w).log = w.log := by unfold decimalGuard; split <;> rfl
@[simp] theorem decimalGuard_ea : (decimalGuard w).ea = w.ea := by unfold decimalGuard; split <;> rfl
@[simp] theorem decimalGuard_extra : (decimalGuard w).extra = w.extra := by unfold decimalGuard; split <;> rfl

/-- The guard refuses exactly with `refuse` and D = 1 (43_arithmetic_logic.md R181). -/
theorem decimalGuard_refusal :
    (decimalGuard w).refusal =
      if w.st.cfg.decimalMode = .refuse ∧ w.st.flag .D = true then some .decimalMode else w.refusal := by
  unfold decimalGuard; split <;> rfl

theorem branch_st (c : Bool) : (branch c w).st = if c then w.st.setPC w.target else w.st := by
  cases c <;> rfl
@[simp] theorem branch_log (c : Bool) : (branch c w).log = w.log := by cases c <;> rfl
@[simp] theorem branch_ea (c : Bool) : (branch c w).ea = w.ea := by cases c <;> rfl
@[simp] theorem branch_refusal (c : Bool) : (branch c w).refusal = w.refusal := by cases c <;> rfl
theorem branch_extra (c : Bool) : (branch c w).extra = if c then 1 + w.pageCross.toNat else w.extra := by
  cases c <;> rfl

/-! ## The result of a shift -/

@[simp] theorem writeResult_p (v : Byte) : (writeResult v w).st.p = w.st.p := by
  unfold writeResult; split <;> rfl

/-! ## Instructions with an effective address -/

/-- An instruction whose mode yields an effective address hands it to its handler. -/
theorem exists_ea {i : Instr} (s : State) (h : i.mode ≠ .imp ∧ i.mode ≠ .acc ∧ i.mode ≠ .imm) :
    ∃ ea, effectiveAddress i.operand s = some ea ∧ (resolve i.operand (start s)).ea = some ea ∧
      (resolve i.operand (start s)).target = ea := by
  obtain ⟨ea, he⟩ := Option.isSome_iff_exists.1 ((effectiveAddress_isSome i.operand s).2 h)
  have he' : (resolve i.operand (start s)).ea = some ea := he
  exact ⟨ea, he, he', by simp [Work.target, he']⟩

/-- The mnemonics mapped with such modes only (log entry 3). -/
theorem mode_of_mnemonic {i : Instr} (h : i.mnemonic ∈ [.STA, .STX, .STY, .INC, .DEC, .BIT, .JMP, .JSR]) :
    i.mode ≠ .imp ∧ i.mode ≠ .acc ∧ i.mode ≠ .imm := by
  cases i <;> first
    | exact ⟨Mode.noConfusion, Mode.noConfusion, Mode.noConfusion⟩
    | simp [Instr.mnemonic] at h

/-! ## `MemoryStored` -/

/-- Looking an address up in a list of stored bytes. -/
theorem lookup_stored (b c : Word) (v : Byte) (l : List (Word × Byte)) :
    List.lookup b ((c, v) :: l) = if b = c then some v else l.lookup b := by
  by_cases h : b = c
  · subst h; simp [List.lookup]
  · have : (b == c) = false := by simpa using h
    simp [List.lookup, this, h]

/-- One store on a canonical memory. -/
theorem memoryStored_store {s : State} (c : Word) (v : Byte) (h : Memory.wf s.mem) :
    MemoryStored s (s.store c v) [(c, v)] := by
  intro b
  rw [State.store_byteAt c b v h, lookup_stored]
  by_cases hb : b = c <;> simp [hb]

/-- One store more: the new byte comes first in the list. -/
theorem MemoryStored.store {s t : State} {l : List (Word × Byte)} (h : MemoryStored s t l) (c : Word) (v : Byte)
    (hw : Memory.wf t.mem) : MemoryStored s (t.store c v) ((c, v) :: l) := by
  intro b
  rw [State.store_byteAt c b v hw, lookup_stored, h b]
  by_cases hb : b = c <;> simp [hb]

end Sys2Proof.Machine
end

