-- ==== Sys2Proof/Laws/Induction.lean ====
section
/-! SUPPORT. One induction over what a handler does: a property of the working copy that reading a byte, writing a byte
and changing A, X, Y, SP, PC or P keep is kept by every handler. The statements about memory, the access log and the
latches go through it. -/

namespace Sys2Proof.Machine

/-- `v` differs from `w` at most in A, X, Y, SP, PC, P and in what the handler reports. -/
structure Work.SameBus (v w : Work) : Prop where
  mem : v.st.mem = w.st.mem
  cfg : v.st.cfg = w.st.cfg
  opcode : v.st.opcode = w.st.opcode
  dataBus : v.st.dataBus = w.st.dataBus
  addrBus : v.st.addrBus = w.st.addrBus
  log : v.log = w.log
  mode : v.mode = w.mode
  ea : v.ea = w.ea
  operand : v.operand = w.operand
  pageCross : v.pageCross = w.pageCross

/-- A property of working copies that the three kinds of change keep. -/
structure Work.Kept (P : Work → Prop) : Prop where
  read : ∀ (b : Word) (w : Work), P w → P (w.read b).2
  write : ∀ (b : Word) (v : Byte) (w : Work), P w → P (w.write b v)
  same : ∀ v w : Work, v.SameBus w → P w → P v

namespace Work.Kept

variable {P : Work → Prop} (k : Work.Kept P) {w : Work}
include k

theorem setA (v : Byte) (h : P w) : P (w.upd (State.setA v)) :=
  k.same _ w ⟨rfl, rfl, rfl, rfl, rfl, rfl, rfl, rfl, rfl, rfl⟩ h
theorem setX (v : Byte) (h : P w) : P (w.upd (State.setX v)) :=
  k.same _ w ⟨rfl, rfl, rfl, rfl, rfl, rfl, rfl, rfl, rfl, rfl⟩ h
theorem setY (v : Byte) (h : P w) : P (w.upd (State.setY v)) :=
  k.same _ w ⟨rfl, rfl, rfl, rfl, rfl, rfl, rfl, rfl, rfl, rfl⟩ h
theorem setPC (v : Word) (h : P w) : P (w.upd (State.setPC v)) :=
  k.same _ w ⟨rfl, rfl, rfl, rfl, rfl, rfl, rfl, rfl, rfl, rfl⟩ h
theorem setSP (f : State → Byte) (h : P w) : P (w.upd fun s => s.setSP (f s)) :=
  k.same _ w ⟨rfl, rfl, rfl, rfl, rfl, rfl, rfl, rfl, rfl, rfl⟩ h
theorem setP (f : State → Byte) (h : P w) : P (w.upd fun s => s.setP (f s)) :=
  k.same _ w ⟨rfl, rfl, rfl, rfl, rfl, rfl, rfl, rfl, rfl, rfl⟩ h

theorem setFlag (f : Flag) (c : Bool) (h : P w) : P (w.setFlag f c) := k.setP _ h
theorem setNZ (r : Byte) (h : P w) : P (w.setNZ r) := k.setP _ h
theorem setCNZ (q : Carried) (h : P w) : P (Machine.setCNZ q w) := k.setNZ _ (k.setFlag _ _ h)
theorem addToA (q : Sum) (h : P w) : P (Machine.addToA q w) :=
  k.setNZ _ (k.setFlag _ _ (k.setFlag _ _ (k.setA _ h)))

theorem decimalGuard (h : P w) : P (Machine.decimalGuard w) := by
  unfold Machine.decimalGuard
  split
  · exact k.same _ w ⟨rfl, rfl, rfl, rfl, rfl, rfl, rfl, rfl, rfl, rfl⟩ h
  · exact h

theorem branch (c : Bool) (h : P w) : P (Machine.branch c w) := by
  cases c
  · exact h
  · exact k.same _ w ⟨rfl, rfl, rfl, rfl, rfl, rfl, rfl, rfl, rfl, rfl⟩ h

theorem readOperand (h : P w) : P (Machine.readOperand w).2 := by
  unfold Machine.readOperand
  split
  · exact h
  · split
    · exact h
    · exact k.read _ _ h

theorem writeResult (v : Byte) (h : P w) : P (Machine.writeResult v w) := by
  unfold Machine.writeResult
  split
  · exact k.setA _ h
  · exact k.write _ _ _ h

theorem push (v : Byte) (h : P w) : P (w.push v) := k.setSP _ (k.write _ _ _ h)
theorem push16 (v : Word) (h : P w) : P (w.push16 v) := k.push _ (k.push _ h)
theorem pull (h : P w) : P w.pull.2 := k.read _ _ (k.setSP _ h)
theorem pull16 (h : P w) : P w.pull16.2 := k.pull (k.pull h)
theorem read16 (b : Word) (h : P w) : P (w.read16 b).2 := k.read _ _ (k.read _ _ h)
theorem pullStatus (h : P w) : P w.pullStatus :=
  k.setP (fun s => setPulledFlags w.pull.1 s.p) (k.pull h)

theorem takeTrap (ret vector : Word) (h : P w) : P (w.takeTrap ret vector) := by
  unfold Work.takeTrap
  exact k.setPC _ (k.read16 _ (k.setFlag _ _ (k.push _ (k.push16 _ h))))

theorem returnFromTrap (h : P w) : P w.returnFromTrap := by
  unfold Work.returnFromTrap
  exact k.setPC _ (k.pull16 (k.pullStatus h))

/-- Every handler keeps the property. -/
theorem handler (m : Mnemonic) (h : P w) : P (Machine.handler m w) := by
  cases m
  case LDA => exact k.setNZ _ (k.setA _ (k.readOperand h))
  case LDX => exact k.setNZ _ (k.setX _ (k.readOperand h))
  case LDY => exact k.setNZ _ (k.setY _ (k.readOperand h))
  case STA | STX | STY => exact k.write _ _ _ h
  case TAX | TSX => exact k.setNZ _ (k.setX _ h)
  case TAY => exact k.setNZ _ (k.setY _ h)
  case TXA | TYA => exact k.setNZ _ (k.setA _ h)
  case TXS => exact k.setSP _ h
  case ADC | SBC => exact k.addToA _ (k.decimalGuard (k.readOperand h))
  case AND | ORA | EOR => exact k.setNZ _ (k.setA _ (k.readOperand h))
  case BIT => exact k.setFlag _ _ (k.setFlag _ _ (k.setFlag _ _ (k.read _ _ h)))
  case CMP | CPX | CPY => exact k.setCNZ _ (k.readOperand h)
  case INC | DEC => exact k.setNZ _ (k.write _ _ _ (k.read _ _ h))
  case INX | DEX => exact k.setNZ _ (k.setX _ h)
  case INY | DEY => exact k.setNZ _ (k.setY _ h)
  case ASL | LSR | ROL | ROR => exact k.setCNZ _ (k.writeResult _ (k.readOperand h))
  case BCC | BCS | BEQ | BNE | BMI | BPL | BVC | BVS => exact k.branch _ h
  case JMP => exact k.setPC _ h
  case JSR => exact k.setPC _ (k.push16 _ h)
  case RTS => exact k.setPC _ (k.pull16 h)
  case PHA | PHP => exact k.push _ h
  case PLA => exact k.setNZ _ (k.setA _ (k.pull h))
  case PLP => exact k.pullStatus h
  case CLC | SEC | CLI | SEI | CLD | SED | CLV => exact k.setFlag _ _ h
  case NOP => exact h
  case BRK => exact k.takeTrap _ _ h
  case RTI => exact k.returnFromTrap h

end Work.Kept

end Sys2Proof.Machine
end

