-- ==== Sys2Proof/Tests/Slice0.lean ====
section
/-! SUPPORT. Our own tests. Expected values are those of 95_test_vectors.md (the source's own scenarios and the vectors
derived from the rules) and of the opcode matrix of 30_encoding.md R86, not the model's answers. The end of the file
holds, for every obligation with hypotheses, concrete states and operands that meet all of them together. -/

namespace Sys2Proof.Tests

open Machine

/-! ## Well-formedness (30_encoding.md R88, R91) -/

/-- The one check, refused: the source_shown profile has no NOP, no store and no LDA but the five shown. -/
theorem test_source_shown_refuses_other_instructions :
    [Instr.nop, .ldaAbsx 0x1234, .ldaIndy 0x10, .staZp 0x10, .brk].all (fun i => !i.wellFormed .sourceShown) = true := by
  decide

theorem test_source_shown_accepts_the_five :
    [Instr.ldaImm 0x00, .ldaZp 0x04, .ldaZpx 0x04, .ldaAbs 0x0004, .ldaIndx 0x04].all
      (fun i => i.wellFormed .sourceShown) = true := by
  decide

/-- No operand value is illegal (R91). -/
theorem test_full_accepts_every_operand :
    [Instr.ldaImm 0x00, .ldaImm 0xFF, .jmpInd 0x0000, .jmpInd 0xFFFF, .bne 0x80].all
      (fun i => i.wellFormed .full) = true := by
  decide

/-! ## Decoding: the words of every row, written out from the matrix of 30_encoding.md R86, operand bytes 34 12 -/

theorem test_decode_row_0x :
    ([([0x00], .brk), ([0x01, 0x34], .oraIndx 0x34), ([0x05, 0x34], .oraZp 0x34),
      ([0x06, 0x34], .aslZp 0x34), ([0x08], .php), ([0x09, 0x34], .oraImm 0x34), ([0x0A], .aslAcc),
      ([0x0D, 0x34, 0x12], .oraAbs 0x1234), ([0x0E, 0x34, 0x12], .aslAbs 0x1234)] : List (List Byte × Instr)).all
      (fun c => decode .full c.1 == .instr c.2 [] && encode c.2 == c.1) = true := by
  decide

theorem test_decode_row_1x :
    ([([0x10, 0x34], .bpl 0x34), ([0x11, 0x34], .oraIndy 0x34), ([0x15, 0x34], .oraZpx 0x34),
      ([0x16, 0x34], .aslZpx 0x34), ([0x18], .clc), ([0x19, 0x34, 0x12], .oraAbsy 0x1234),
      ([0x1D, 0x34, 0x12], .oraAbsx 0x1234), ([0x1E, 0x34, 0x12], .aslAbsx 0x1234)] : List (List Byte × Instr)).all
      (fun c => decode .full c.1 == .instr c.2 [] && encode c.2 == c.1) = true := by
  decide

theorem test_decode_row_2x :
    ([([0x20, 0x34, 0x12], .jsr 0x1234), ([0x21, 0x34], .andIndx 0x34), ([0x24, 0x34], .bitZp 0x34),
      ([0x25, 0x34], .andZp 0x34), ([0x26, 0x34], .rolZp 0x34), ([0x28], .plp),
      ([0x29, 0x34], .andImm 0x34), ([0x2A], .rolAcc), ([0x2C, 0x34, 0x12], .bitAbs 0x1234),
      ([0x2D, 0x34, 0x12], .andAbs 0x1234), ([0x2E, 0x34, 0x12], .rolAbs 0x1234)] : List (List Byte × Instr)).all
      (fun c => decode .full c.1 == .instr c.2 [] && encode c.2 == c.1) = true := by
  decide

theorem test_decode_row_3x :
    ([([0x30, 0x34], .bmi 0x34), ([0x31, 0x34], .andIndy 0x34), ([0x35, 0x34], .andZpx 0x34),
      ([0x36, 0x34], .rolZpx 0x34), ([0x38], .sec), ([0x39, 0x34, 0x12], .andAbsy 0x1234),
      ([0x3D, 0x34, 0x12], .andAbsx 0x1234), ([0x3E, 0x34, 0x12], .rolAbsx 0x1234)] : List (List Byte × Instr)).all
      (fun c => decode .full c.1 == .instr c.2 [] && encode c.2 == c.1) = true := by
  decide

theorem test_decode_row_4x :
    ([([0x40], .rti), ([0x41, 0x34], .eorIndx 0x34), ([0x45, 0x34], .eorZp 0x34),
      ([0x46, 0x34], .lsrZp 0x34), ([0x48], .pha), ([0x49, 0x34], .eorImm 0x34), ([0x4A], .lsrAcc),
      ([0x4C, 0x34, 0x12], .jmpAbs 0x1234), ([0x4D, 0x34, 0x12], .eorAbs 0x1234),
      ([0x4E, 0x34, 0x12], .lsrAbs 0x1234)] : List (List Byte × Instr)).all
      (fun c => decode .full c.1 == .instr c.2 [] && encode c.2 == c.1) = true := by
  decide

theorem test_decode_row_5x :
    ([([0x50, 0x34], .bvc 0x34), ([0x51, 0x34], .eorIndy 0x34), ([0x55, 0x34], .eorZpx 0x34),
      ([0x56, 0x34], .lsrZpx 0x34), ([0x58], .cli), ([0x59, 0x34, 0x12], .eorAbsy 0x1234),
      ([0x5D, 0x34, 0x12], .eorAbsx 0x1234), ([0x5E, 0x34, 0x12], .lsrAbsx 0x1234)] : List (List Byte × Instr)).all
      (fun c => decode .full c.1 == .instr c.2 [] && encode c.2 == c.1) = true := by
  decide

theorem test_decode_row_6x :
    ([([0x60], .rts), ([0x61, 0x34], .adcIndx 0x34), ([0x65, 0x34], .adcZp 0x34),
      ([0x66, 0x34], .rorZp 0x34), ([0x68], .pla), ([0x69, 0x34], .adcImm 0x34), ([0x6A], .rorAcc),
      ([0x6C, 0x34, 0x12], .jmpInd 0x1234), ([0x6D, 0x34, 0x12], .adcAbs 0x1234),
      ([0x6E, 0x34, 0x12], .rorAbs 0x1234)] : List (List Byte × Instr)).all
      (fun c => decode .full c.1 == .instr c.2 [] && encode c.2 == c.1) = true := by
  decide

theorem test_decode_row_7x :
    ([([0x70, 0x34], .bvs 0x34), ([0x71, 0x34], .adcIndy 0x34), ([0x75, 0x34], .adcZpx 0x34),
      ([0x76, 0x34], .rorZpx 0x34), ([0x78], .sei), ([0x79, 0x34, 0x12], .adcAbsy 0x1234),
      ([0x7D, 0x34, 0x12], .adcAbsx 0x1234), ([0x7E, 0x34, 0x12], .rorAbsx 0x1234)] : List (List Byte × Instr)).all
      (fun c => decode .full c.1 == .instr c.2 [] && encode c.2 == c.1) = true := by
  decide

theorem test_decode_row_8x :
    ([([0x81, 0x34], .staIndx 0x34), ([0x84, 0x34], .styZp 0x34), ([0x85, 0x34], .staZp 0x34),
      ([0x86, 0x34], .stxZp 0x34), ([0x88], .dey), ([0x8A], .txa), ([0x8C, 0x34, 0x12], .styAbs 0x1234),
      ([0x8D, 0x34, 0x12], .staAbs 0x1234), ([0x8E, 0x34, 0x12], .stxAbs 0x1234)] : List (List Byte × Instr)).all
      (fun c => decode .full c.1 == .instr c.2 [] && encode c.2 == c.1) = true := by
  decide

theorem test_decode_row_9x :
    ([([0x90, 0x34], .bcc 0x34), ([0x91, 0x34], .staIndy 0x34), ([0x94, 0x34], .styZpx 0x34),
      ([0x95, 0x34], .staZpx 0x34), ([0x96, 0x34], .stxZpy 0x34), ([0x98], .tya),
      ([0x99, 0x34, 0x12], .staAbsy 0x1234), ([0x9A], .txs), ([0x9D, 0x34, 0x12], .staAbsx 0x1234)] : List (List Byte × Instr)).all
      (fun c => decode .full c.1 == .instr c.2 [] && encode c.2 == c.1) = true := by
  decide

theorem test_decode_row_Ax :
    ([([0xA0, 0x34], .ldyImm 0x34), ([0xA1, 0x34], .ldaIndx 0x34), ([0xA2, 0x34], .ldxImm 0x34),
      ([0xA4, 0x34], .ldyZp 0x34), ([0xA5, 0x34], .ldaZp 0x34), ([0xA6, 0x34], .ldxZp 0x34),
      ([0xA8], .tay), ([0xA9, 0x34], .ldaImm 0x34), ([0xAA], .tax), ([0xAC, 0x34, 0x12], .ldyAbs 0x1234),
      ([0xAD, 0x34, 0x12], .ldaAbs 0x1234), ([0xAE, 0x34, 0x12], .ldxAbs 0x1234)] : List (List Byte × Instr)).all
      (fun c => decode .full c.1 == .instr c.2 [] && encode c.2 == c.1) = true := by
  decide

theorem test_decode_row_Bx :
    ([([0xB0, 0x34], .bcs 0x34), ([0xB1, 0x34], .ldaIndy 0x34), ([0xB4, 0x34], .ldyZpx 0x34),
      ([0xB5, 0x34], .ldaZpx 0x34), ([0xB6, 0x34], .ldxZpy 0x34), ([0xB8], .clv),
      ([0xB9, 0x34, 0x12], .ldaAbsy 0x1234), ([0xBA], .tsx), ([0xBC, 0x34, 0x12], .ldyAbsx 0x1234),
      ([0xBD, 0x34, 0x12], .ldaAbsx 0x1234), ([0xBE, 0x34, 0x12], .ldxAbsy 0x1234)] : List (List Byte × Instr)).all
      (fun c => decode .full c.1 == .instr c.2 [] && encode c.2 == c.1) = true := by
  decide

theorem test_decode_row_Cx :
    ([([0xC0, 0x34], .cpyImm 0x34), ([0xC1, 0x34], .cmpIndx 0x34), ([0xC4, 0x34], .cpyZp 0x34),
      ([0xC5, 0x34], .cmpZp 0x34), ([0xC6, 0x34], .decZp 0x34), ([0xC8], .iny),
      ([0xC9, 0x34], .cmpImm 0x34), ([0xCA], .dex), ([0xCC, 0x34, 0x12], .cpyAbs 0x1234),
      ([0xCD, 0x34, 0x12], .cmpAbs 0x1234), ([0xCE, 0x34, 0x12], .decAbs 0x1234)] : List (List Byte × Instr)).all
      (fun c => decode .full c.1 == .instr c.2 [] && encode c.2 == c.1) = true := by
  decide

theorem test_decode_row_Dx :
    ([([0xD0, 0x34], .bne 0x34), ([0xD1, 0x34], .cmpIndy 0x34), ([0xD5, 0x34], .cmpZpx 0x34),
      ([0xD6, 0x34], .decZpx 0x34), ([0xD8], .cld), ([0xD9, 0x34, 0x12], .cmpAbsy 0x1234),
      ([0xDD, 0x34, 0x12], .cmpAbsx 0x1234), ([0xDE, 0x34, 0x12], .decAbsx 0x1234)] : List (List Byte × Instr)).all
      (fun c => decode .full c.1 == .instr c.2 [] && encode c.2 == c.1) = true := by
  decide

theorem test_decode_row_Ex :
    ([([0xE0, 0x34], .cpxImm 0x34), ([0xE1, 0x34], .sbcIndx 0x34), ([0xE4, 0x34], .cpxZp 0x34),
      ([0xE5, 0x34], .sbcZp 0x34), ([0xE6, 0x34], .incZp 0x34), ([0xE8], .inx),
      ([0xE9, 0x34], .sbcImm 0x34), ([0xEA], .nop), ([0xEC, 0x34, 0x12], .cpxAbs 0x1234),
      ([0xED, 0x34, 0x12], .sbcAbs 0x1234), ([0xEE, 0x34, 0x12], .incAbs 0x1234)] : List (List Byte × Instr)).all
      (fun c => decode .full c.1 == .instr c.2 [] && encode c.2 == c.1) = true := by
  decide

theorem test_decode_row_Fx :
    ([([0xF0, 0x34], .beq 0x34), ([0xF1, 0x34], .sbcIndy 0x34), ([0xF5, 0x34], .sbcZpx 0x34),
      ([0xF6, 0x34], .incZpx 0x34), ([0xF8], .sed), ([0xF9, 0x34, 0x12], .sbcAbsy 0x1234),
      ([0xFD, 0x34, 0x12], .sbcAbsx 0x1234), ([0xFE, 0x34, 0x12], .incAbsx 0x1234)] : List (List Byte × Instr)).all
      (fun c => decode .full c.1 == .instr c.2 [] && encode c.2 == c.1) = true := by
  decide

/-- Bits written out: BIT Absolute is 0010 1100, the operand 0x1234 low byte first. -/
theorem test_decode_bits :
    decode .full [0b00101100#8, 0b00110100#8, 0b00010010#8, 0xEA] = .instr (.bitAbs 0x1234) [0xEA] := by
  decide

/-- Unmapped bytes (R90; 95_test_vectors.md section 2.8). -/
theorem test_decode_unmapped :
    [0x02, 0x80, 0x89, 0x9C, 0x9E, 0xFF].all (fun op => decode .full [op, 0x34, 0x12] == .unmapped op) = true := by
  decide

/-- With source_shown every byte but the five is unmapped (R88). -/
theorem test_decode_source_shown :
    decode .sourceShown [0xEA] = .unmapped 0xEA ∧ decode .sourceShown [0xB5, 0x04] = .instr (.ldaZpx 0x04) [] := by
  decide

/-- The table word's bits: the opcode is bits 7..0, the operand bytes bits 15..8 and 23..16. -/
theorem test_decodeTableWord :
    decodeTableWord 24 0x12346D = some (.adcAbs 0x1234) ∧ decodeTableWord 8 0x12346D = some (.adcAbs 0x0000) ∧
    decodeTableWord 16 0x34D0 = some (.bne 0x34) ∧ decodeTableWord 8 0x02 = none := by
  decide

/-! ## One step -/

/-- The reset state with these registers (A, X, Y, SP, PC, P) and with bytes loaded at the addresses given. -/
def before (a x y sp : Byte) (pc : Word) (p : Byte) (bytes : List (Word × List Byte)) : State :=
  bytes.foldl (fun s c => load c.1 c.2 s) { State.reset with a := a, x := x, y := y, sp := sp, pc := pc, p := p }

/-- The writes among the accesses of a step. -/
def written (s : State) : List (Word × Byte) :=
  (stepAccesses s).filterMap fun q => match q with
    | .write b v => some (b, v)
    | .read _ _ => none

/-- The step completes with these registers, these writes in this order, memory otherwise the same, and this cycle
count. -/
def gives (s : State) (a x y sp : Byte) (pc : Word) (p : Byte) (writes : List (Word × Byte)) (cycles : Nat) : Bool :=
  match step s with
  | .next t =>
    (t.a == a) && (t.x == x) && (t.y == y) && (t.sp == sp) && (t.pc == pc) && (t.p == p) && (written s == writes) &&
      (t.mem == (writes.foldl (fun u c => u.store c.1 c.2) s).mem) && (stepCycles publishedCycles s == some cycles)
  | .fault _ => false
  | .refused _ => false

/-- The step faults like this. -/
def faults (s : State) (f : Fault) : Bool :=
  match step s with
  | .next _ => false
  | .fault g => f == g
  | .refused _ => false

/-! The source's own scenarios (95_test_vectors.md section 1.1). -/

/-- Scenario 1: `LDA #$00`. -/
theorem test_scenario_1 :
    gives (before 0x00 0x00 0x00 0x00 0x0000 0x20 [(0x0000, [0xA9, 0x00])])
      0x00 0x00 0x00 0x00 0x0002 0x22 [] 2 = true := by
  decide

/-- Scenario 2: `LDA $04`. -/
theorem test_scenario_2 :
    gives (before 0x00 0x00 0x00 0x00 0x0000 0x20 [(0x0000, [0xA5, 0x04, 0x00, 0x00, 0x13])])
      0x13 0x00 0x00 0x00 0x0002 0x20 [] 3 = true := by
  decide

/-- Scenario 3: `LDA $04,X`. -/
theorem test_scenario_3 :
    gives (before 0x00 0x00 0x00 0x00 0x0000 0x20 [(0x0000, [0xB5, 0x04, 0x00, 0x00, 0x13])])
      0x13 0x00 0x00 0x00 0x0002 0x20 [] 4 = true := by
  decide

/-- Scenario 4: `LDA $0004`. -/
theorem test_scenario_4 :
    gives (before 0x00 0x00 0x00 0x00 0x0000 0x20 [(0x0000, [0xAD, 0x04, 0x00, 0x00, 0x13])])
      0x13 0x00 0x00 0x00 0x0003 0x20 [] 4 = true := by
  decide

/-- Scenario 5: `LDA ($04,X)`. -/
theorem test_scenario_5 :
    gives (before 0x00 0x00 0x00 0x00 0x0000 0x20 [(0x0000, [0xA1, 0x04, 0x00, 0x00, 0x08, 0x00, 0x00, 0x00, 0x13])])
      0x13 0x00 0x00 0x00 0x0002 0x20 [] 6 = true := by
  decide

/-- Scenario 6: an unmapped opcode byte. -/
theorem test_scenario_6 :
    faults (before 0x00 0x00 0x00 0x00 0x0000 0x20 [(0x0000, [0x02])]) (.decodeError 0x0000 0x02) = true := by
  decide

/-! The derived vectors (95_test_vectors.md sections 2.1 to 2.7), at most two for each opcode. -/

/-- D-R1: `LDA $FF,X`. -/
theorem test_vector_R1 :
    gives (before 0x00 0x02 0x00 0x00 0x0200 0x20
    [(0x0200, [0xB5, 0xFF]), (0x0001, [0x5A]), (0x0101, [0xEE])]) 0x5A 0x02 0x00 0x00 0x0202 0x20
    [] 4 = true := by
  decide

/-- D-R2: `LDX $FF,Y`. -/
theorem test_vector_R2 :
    gives (before 0x00 0x00 0x02 0x00 0x0200 0x20
    [(0x0200, [0xB6, 0xFF]), (0x0001, [0x5A]), (0x0101, [0xEE])]) 0x00 0x5A 0x02 0x00 0x0202 0x20
    [] 4 = true := by
  decide

/-- D-R3: `LDA ($FF,X)`. -/
theorem test_vector_R3 :
    gives (before 0x00 0x02 0x00 0x00 0x0200 0x20
    [(0x0200, [0xA1, 0xFF]), (0x0001, [0x00, 0x03]), (0x0101, [0xEE, 0xEE]), (0x0300, [0x77])]) 0x77 0x02 0x00 0x00 0x0202 0x20
    [] 6 = true := by
  decide

/-- D-R4: `LDA $12F0,X`. -/
theorem test_vector_R4 :
    gives (before 0x00 0x0F 0x00 0x00 0x0200 0x20
    [(0x0200, [0xBD, 0xF0, 0x12]), (0x12FF, [0x11])]) 0x11 0x0F 0x00 0x00 0x0203 0x20
    [] 4 = true := by
  decide

/-- D-R5: `LDA $12F0,X`. -/
theorem test_vector_R5 :
    gives (before 0x00 0x10 0x00 0x00 0x0200 0x20
    [(0x0200, [0xBD, 0xF0, 0x12]), (0x1300, [0x91])]) 0x91 0x10 0x00 0x00 0x0203 0xA0
    [] 5 = true := by
  decide

/-- D-R7: `LDA $00FF,Y`. -/
theorem test_vector_R7 :
    gives (before 0x00 0x00 0x01 0x00 0x0200 0x20
    [(0x0200, [0xB9, 0xFF, 0x00]), (0x0100, [0x66])]) 0x66 0x00 0x01 0x00 0x0203 0x20
    [] 5 = true := by
  decide

/-- D-R8: `LDA ($10),Y`. -/
theorem test_vector_R8 :
    gives (before 0x00 0x00 0x0F 0x00 0x0200 0x20
    [(0x0200, [0xB1, 0x10]), (0x0010, [0xF0, 0x12]), (0x12FF, [0x11])]) 0x11 0x00 0x0F 0x00 0x0202 0x20
    [] 5 = true := by
  decide

/-- D-R9: `LDA ($10),Y`. -/
theorem test_vector_R9 :
    gives (before 0x00 0x00 0x20 0x00 0x0200 0x20
    [(0x0200, [0xB1, 0x10]), (0x0010, [0xF0, 0x12]), (0x1310, [0x22])]) 0x22 0x00 0x20 0x00 0x0202 0x20
    [] 6 = true := by
  decide

/-- D-R10: `STA $12F0,X`. -/
theorem test_vector_R10 :
    gives (before 0x42 0x20 0x00 0x00 0x0200 0x20
    [(0x0200, [0x9D, 0xF0, 0x12])]) 0x42 0x20 0x00 0x00 0x0203 0x20
    [(0x1310, 0x42)] 5 = true := by
  decide

/-- D-R12: `LDA ($FF,X)`. -/
theorem test_vector_R12 :
    gives (before 0x00 0x00 0x00 0x00 0x0200 0x20
    [(0x0200, [0xA1, 0xFF]), (0x00FF, [0x00]), (0x0000, [0x04]), (0x0100, [0x09]), (0x0400, [0x3D]), (0x0900, [0xEE])]) 0x3D 0x00 0x00 0x00 0x0202 0x20
    [] 6 = true := by
  decide

/-- D-R13: `JMP ($02FF)`. -/
theorem test_vector_R13 :
    gives (before 0x00 0x00 0x00 0x00 0x0400 0x20
    [(0x0400, [0x6C, 0xFF, 0x02]), (0x02FF, [0x34, 0x12]), (0x0200, [0x56])]) 0x00 0x00 0x00 0x00 0x5634 0x20
    [] 5 = true := by
  decide

/-- D-R14: `JMP ($02FF), JMP_IND_PAGE_WRAP = false`. -/
theorem test_vector_R14 :
    gives { (before 0x00 0x00 0x00 0x00 0x0400 0x20
    [(0x0400, [0x6C, 0xFF, 0x02]), (0x02FF, [0x34, 0x12]), (0x0200, [0x56])]) with cfg := { Config.standard with jmpIndPageWrap := false } } 0x00 0x00 0x00 0x00 0x1234 0x20
    [] 5 = true := by
  decide

/-- D-R16: `LDA $10,X (X = 0xFF)`. -/
theorem test_vector_R16 :
    gives (before 0x00 0xFF 0x00 0x00 0x0200 0x20
    [(0x0200, [0xB5, 0x10]), (0x000F, [0x99])]) 0x99 0xFF 0x00 0x00 0x0202 0xA0
    [] 4 = true := by
  decide

/-- D-L1: `LDA #$80`. -/
theorem test_vector_L1 :
    gives (before 0x00 0x00 0x00 0x00 0x0200 0x20
    [(0x0200, [0xA9, 0x80])]) 0x80 0x00 0x00 0x00 0x0202 0xA0
    [] 2 = true := by
  decide

/-- D-L2: `LDA #$00 (A was 0x55, N was set)`. -/
theorem test_vector_L2 :
    gives (before 0x55 0x00 0x00 0x00 0x0200 0xA1
    [(0x0200, [0xA9, 0x00])]) 0x00 0x00 0x00 0x00 0x0202 0x23
    [] 2 = true := by
  decide

/-- D-L3: `LDX #$FF`. -/
theorem test_vector_L3 :
    gives (before 0x00 0x00 0x00 0x00 0x0200 0x20
    [(0x0200, [0xA2, 0xFF])]) 0x00 0xFF 0x00 0x00 0x0202 0xA0
    [] 2 = true := by
  decide

/-- D-L4: `LDX $0310,Y`. -/
theorem test_vector_L4 :
    gives (before 0x00 0x00 0xF0 0x00 0x0200 0x20
    [(0x0200, [0xBE, 0x10, 0x03]), (0x0400, [0x00])]) 0x00 0x00 0xF0 0x00 0x0203 0x22
    [] 5 = true := by
  decide

/-- D-L5: `LDY #$7F`. -/
theorem test_vector_L5 :
    gives (before 0x00 0x00 0x00 0x00 0x0200 0x20
    [(0x0200, [0xA0, 0x7F])]) 0x00 0x00 0x7F 0x00 0x0202 0x20
    [] 2 = true := by
  decide

/-- D-L6: `LDY $10,X`. -/
theorem test_vector_L6 :
    gives (before 0x00 0x04 0x00 0x00 0x0200 0x20
    [(0x0200, [0xB4, 0x10]), (0x0014, [0x81])]) 0x00 0x04 0x81 0x00 0x0202 0xA0
    [] 4 = true := by
  decide

/-- D-L7: `STA $0300`. -/
theorem test_vector_L7 :
    gives (before 0x42 0x00 0x00 0x00 0x0200 0xE3
    [(0x0200, [0x8D, 0x00, 0x03])]) 0x42 0x00 0x00 0x00 0x0203 0xE3
    [(0x0300, 0x42)] 4 = true := by
  decide

/-- D-L8: `STA ($10),Y`. -/
theorem test_vector_L8 :
    gives (before 0x99 0x00 0x20 0x00 0x0200 0x20
    [(0x0200, [0x91, 0x10]), (0x0010, [0xF0, 0x12])]) 0x99 0x00 0x20 0x00 0x0202 0x20
    [(0x1310, 0x99)] 6 = true := by
  decide

/-- D-L9: `STA ($10,X)`. -/
theorem test_vector_L9 :
    gives (before 0x77 0x04 0x00 0x00 0x0200 0x20
    [(0x0200, [0x81, 0x10]), (0x0014, [0x00, 0x05])]) 0x77 0x04 0x00 0x00 0x0202 0x20
    [(0x0500, 0x77)] 6 = true := by
  decide

/-- D-L10: `STX $10,Y`. -/
theorem test_vector_L10 :
    gives (before 0x00 0x05 0xF8 0x00 0x0200 0x20
    [(0x0200, [0x96, 0x10])]) 0x00 0x05 0xF8 0x00 0x0202 0x20
    [(0x0008, 0x05)] 4 = true := by
  decide

/-- D-L11: `STY $FF,X`. -/
theorem test_vector_L11 :
    gives (before 0x00 0x01 0x80 0x00 0x0200 0x20
    [(0x0200, [0x94, 0xFF])]) 0x00 0x01 0x80 0x00 0x0202 0x20
    [(0x0000, 0x80)] 4 = true := by
  decide

/-- D-L12: `STA $0203 (into the following bytes)`. -/
theorem test_vector_L12 :
    gives (before 0xEA 0x00 0x00 0x00 0x0200 0x20
    [(0x0200, [0x8D, 0x03, 0x02])]) 0xEA 0x00 0x00 0x00 0x0203 0x20
    [(0x0203, 0xEA)] 4 = true := by
  decide

/-- D-L13: `TAX (A = 0x00)`. -/
theorem test_vector_L13 :
    gives (before 0x00 0x33 0x00 0x00 0x0200 0x20
    [(0x0200, [0xAA])]) 0x00 0x00 0x00 0x00 0x0201 0x22
    [] 2 = true := by
  decide

/-- D-L14: `TAY (A = 0x90)`. -/
theorem test_vector_L14 :
    gives (before 0x90 0x00 0x00 0x00 0x0200 0x20
    [(0x0200, [0xA8])]) 0x90 0x00 0x90 0x00 0x0201 0xA0
    [] 2 = true := by
  decide

/-- D-L15: `TXA (X = 0x7F)`. -/
theorem test_vector_L15 :
    gives (before 0xFF 0x7F 0x00 0x00 0x0200 0xA0
    [(0x0200, [0x8A])]) 0x7F 0x7F 0x00 0x00 0x0201 0x20
    [] 2 = true := by
  decide

/-- D-L16: `TYA (Y = 0xFF)`. -/
theorem test_vector_L16 :
    gives (before 0x00 0x00 0xFF 0x00 0x0200 0x20
    [(0x0200, [0x98])]) 0xFF 0x00 0xFF 0x00 0x0201 0xA0
    [] 2 = true := by
  decide

/-- D-L17: `TSX (SP = 0x00)`. -/
theorem test_vector_L17 :
    gives (before 0x00 0x12 0x00 0x00 0x0200 0x20
    [(0x0200, [0xBA])]) 0x00 0x00 0x00 0x00 0x0201 0x22
    [] 2 = true := by
  decide

/-- D-L18: `TSX (SP = 0xFD)`. -/
theorem test_vector_L18 :
    gives (before 0x00 0x00 0x00 0xFD 0x0200 0x20
    [(0x0200, [0xBA])]) 0x00 0xFD 0x00 0xFD 0x0201 0xA0
    [] 2 = true := by
  decide

/-- D-L19: `TXS (X = 0x00, flags must not change)`. -/
theorem test_vector_L19 :
    gives (before 0x00 0x00 0x00 0x55 0x0200 0xA0
    [(0x0200, [0x9A])]) 0x00 0x00 0x00 0x00 0x0201 0xA0
    [] 2 = true := by
  decide

/-- D-L20: `TXS (X = 0xFF)`. -/
theorem test_vector_L20 :
    gives (before 0x00 0xFF 0x00 0x00 0x0200 0x20
    [(0x0200, [0x9A])]) 0x00 0xFF 0x00 0xFF 0x0201 0x20
    [] 2 = true := by
  decide

/-- D-A1: `ADC #$22`. -/
theorem test_vector_A1 :
    gives (before 0x10 0x00 0x00 0x00 0x0200 0x20
    [(0x0200, [0x69, 0x22])]) 0x32 0x00 0x00 0x00 0x0202 0x20
    [] 2 = true := by
  decide

/-- D-A2: `ADC #$01 (0xFF + 1)`. -/
theorem test_vector_A2 :
    gives (before 0xFF 0x00 0x00 0x00 0x0200 0x20
    [(0x0200, [0x69, 0x01])]) 0x00 0x00 0x00 0x00 0x0202 0x23
    [] 2 = true := by
  decide

/-- D-A8: `ADC $10 (zero page operand)`. -/
theorem test_vector_A8 :
    gives (before 0x01 0x00 0x00 0x00 0x0200 0x20
    [(0x0200, [0x65, 0x10]), (0x0010, [0x02])]) 0x03 0x00 0x00 0x00 0x0202 0x20
    [] 3 = true := by
  decide

/-- D-A9: `SBC #$10 (C = 1)`. -/
theorem test_vector_A9 :
    gives (before 0x50 0x00 0x00 0x00 0x0200 0x21
    [(0x0200, [0xE9, 0x10])]) 0x40 0x00 0x00 0x00 0x0202 0x21
    [] 2 = true := by
  decide

/-- D-A10: `SBC #$01 (0 - 1, C = 1)`. -/
theorem test_vector_A10 :
    gives (before 0x00 0x00 0x00 0x00 0x0200 0x21
    [(0x0200, [0xE9, 0x01])]) 0xFF 0x00 0x00 0x00 0x0202 0xA0
    [] 2 = true := by
  decide

/-- D-A16: `AND #$3C`. -/
theorem test_vector_A16 :
    gives (before 0xF0 0x00 0x00 0x00 0x0200 0x20
    [(0x0200, [0x29, 0x3C])]) 0x30 0x00 0x00 0x00 0x0202 0x20
    [] 2 = true := by
  decide

/-- D-A17: `AND #$F0 (result 0)`. -/
theorem test_vector_A17 :
    gives (before 0x0F 0x00 0x00 0x00 0x0200 0x61
    [(0x0200, [0x29, 0xF0])]) 0x00 0x00 0x00 0x00 0x0202 0x63
    [] 2 = true := by
  decide

/-- D-A18: `ORA #$80`. -/
theorem test_vector_A18 :
    gives (before 0x01 0x00 0x00 0x00 0x0200 0x20
    [(0x0200, [0x09, 0x80])]) 0x81 0x00 0x00 0x00 0x0202 0xA0
    [] 2 = true := by
  decide

/-- D-A19: `ORA #$00 (result 0)`. -/
theorem test_vector_A19 :
    gives (before 0x00 0x00 0x00 0x00 0x0200 0x20
    [(0x0200, [0x09, 0x00])]) 0x00 0x00 0x00 0x00 0x0202 0x22
    [] 2 = true := by
  decide

/-- D-A20: `EOR #$FF`. -/
theorem test_vector_A20 :
    gives (before 0xFF 0x00 0x00 0x00 0x0200 0x20
    [(0x0200, [0x49, 0xFF])]) 0x00 0x00 0x00 0x00 0x0202 0x22
    [] 2 = true := by
  decide

/-- D-A21: `EOR #$FF (A = 0x55)`. -/
theorem test_vector_A21 :
    gives (before 0x55 0x00 0x00 0x00 0x0200 0x20
    [(0x0200, [0x49, 0xFF])]) 0xAA 0x00 0x00 0x00 0x0202 0xA0
    [] 2 = true := by
  decide

/-- D-A22: `BIT $10`. -/
theorem test_vector_A22 :
    gives (before 0x01 0x00 0x00 0x00 0x0200 0x20
    [(0x0200, [0x24, 0x10]), (0x0010, [0x41])]) 0x01 0x00 0x00 0x00 0x0202 0x60
    [] 3 = true := by
  decide

/-- D-A23: `BIT $10 (A = 0)`. -/
theorem test_vector_A23 :
    gives (before 0x00 0x00 0x00 0x00 0x0200 0x21
    [(0x0200, [0x24, 0x10]), (0x0010, [0xC0])]) 0x00 0x00 0x00 0x00 0x0202 0xE3
    [] 3 = true := by
  decide

/-- D-A24: `BIT $0300 (clears N, V)`. -/
theorem test_vector_A24 :
    gives (before 0xFF 0x00 0x00 0x00 0x0200 0xE0
    [(0x0200, [0x2C, 0x00, 0x03]), (0x0300, [0x3F])]) 0xFF 0x00 0x00 0x00 0x0203 0x20
    [] 4 = true := by
  decide

/-- D-A25: `CMP #$40 (equal)`. -/
theorem test_vector_A25 :
    gives (before 0x40 0x00 0x00 0x00 0x0200 0x20
    [(0x0200, [0xC9, 0x40])]) 0x40 0x00 0x00 0x00 0x0202 0x23
    [] 2 = true := by
  decide

/-- D-A26: `CMP #$01 (A = 0)`. -/
theorem test_vector_A26 :
    gives (before 0x00 0x00 0x00 0x00 0x0200 0x61
    [(0x0200, [0xC9, 0x01])]) 0x00 0x00 0x00 0x00 0x0202 0xE0
    [] 2 = true := by
  decide

/-- D-A29: `CPX #$0A (X = 5)`. -/
theorem test_vector_A29 :
    gives (before 0x00 0x05 0x00 0x00 0x0200 0x20
    [(0x0200, [0xE0, 0x0A])]) 0x00 0x05 0x00 0x00 0x0202 0xA0
    [] 2 = true := by
  decide

/-- D-A30: `CPY #$10 (Y = 0x10)`. -/
theorem test_vector_A30 :
    gives (before 0x00 0x00 0x10 0x00 0x0200 0x20
    [(0x0200, [0xC0, 0x10])]) 0x00 0x00 0x10 0x00 0x0202 0x23
    [] 2 = true := by
  decide

/-- D-A31: `INC $10 (0xFF)`. -/
theorem test_vector_A31 :
    gives (before 0x00 0x00 0x00 0x00 0x0200 0x21
    [(0x0200, [0xE6, 0x10]), (0x0010, [0xFF])]) 0x00 0x00 0x00 0x00 0x0202 0x23
    [(0x0010, 0x00)] 5 = true := by
  decide

/-- D-A32: `INC $10 (0x7F)`. -/
theorem test_vector_A32 :
    gives (before 0x00 0x00 0x00 0x00 0x0200 0x20
    [(0x0200, [0xE6, 0x10]), (0x0010, [0x7F])]) 0x00 0x00 0x00 0x00 0x0202 0xA0
    [(0x0010, 0x80)] 5 = true := by
  decide

/-- D-A33: `INC $12F0,X`. -/
theorem test_vector_A33 :
    gives (before 0x00 0x20 0x00 0x00 0x0200 0x20
    [(0x0200, [0xFE, 0xF0, 0x12]), (0x1310, [0x09])]) 0x00 0x20 0x00 0x00 0x0203 0x20
    [(0x1310, 0x0A)] 7 = true := by
  decide

/-- D-A34: `DEC $0300 (0x01)`. -/
theorem test_vector_A34 :
    gives (before 0x00 0x00 0x00 0x00 0x0200 0x20
    [(0x0200, [0xCE, 0x00, 0x03]), (0x0300, [0x01])]) 0x00 0x00 0x00 0x00 0x0203 0x22
    [(0x0300, 0x00)] 6 = true := by
  decide

/-- D-A35: `DEC $10 (0x00)`. -/
theorem test_vector_A35 :
    gives (before 0x00 0x00 0x00 0x00 0x0200 0x20
    [(0x0200, [0xC6, 0x10]), (0x0010, [0x00])]) 0x00 0x00 0x00 0x00 0x0202 0xA0
    [(0x0010, 0xFF)] 5 = true := by
  decide

/-- D-A36: `INX (0xFF)`. -/
theorem test_vector_A36 :
    gives (before 0x00 0xFF 0x00 0x00 0x0200 0x20
    [(0x0200, [0xE8])]) 0x00 0x00 0x00 0x00 0x0201 0x22
    [] 2 = true := by
  decide

/-- D-A37: `INY (0x7F)`. -/
theorem test_vector_A37 :
    gives (before 0x00 0x00 0x7F 0x00 0x0200 0x20
    [(0x0200, [0xC8])]) 0x00 0x00 0x80 0x00 0x0201 0xA0
    [] 2 = true := by
  decide

/-- D-A38: `DEX (0x01)`. -/
theorem test_vector_A38 :
    gives (before 0x00 0x01 0x00 0x00 0x0200 0x20
    [(0x0200, [0xCA])]) 0x00 0x00 0x00 0x00 0x0201 0x22
    [] 2 = true := by
  decide

/-- D-A39: `DEX (0x00)`. -/
theorem test_vector_A39 :
    gives (before 0x00 0x00 0x00 0x00 0x0200 0x20
    [(0x0200, [0xCA])]) 0x00 0xFF 0x00 0x00 0x0201 0xA0
    [] 2 = true := by
  decide

/-- D-A40: `DEY (0x80)`. -/
theorem test_vector_A40 :
    gives (before 0x00 0x00 0x80 0x00 0x0200 0xA0
    [(0x0200, [0x88])]) 0x00 0x00 0x7F 0x00 0x0201 0x20
    [] 2 = true := by
  decide

/-- D-S1: `ASL A (0x41)`. -/
theorem test_vector_S1 :
    gives (before 0x41 0x00 0x00 0x00 0x0200 0x20
    [(0x0200, [0x0A])]) 0x82 0x00 0x00 0x00 0x0201 0xA0
    [] 2 = true := by
  decide

/-- D-S2: `ASL A (0x80)`. -/
theorem test_vector_S2 :
    gives (before 0x80 0x00 0x00 0x00 0x0200 0x20
    [(0x0200, [0x0A])]) 0x00 0x00 0x00 0x00 0x0201 0x23
    [] 2 = true := by
  decide

/-- D-S4: `ASL $10 (0x40)`. -/
theorem test_vector_S4 :
    gives (before 0x00 0x00 0x00 0x00 0x0200 0x20
    [(0x0200, [0x06, 0x10]), (0x0010, [0x40])]) 0x00 0x00 0x00 0x00 0x0202 0xA0
    [(0x0010, 0x80)] 5 = true := by
  decide

/-- D-S5: `LSR A (0x01)`. -/
theorem test_vector_S5 :
    gives (before 0x01 0x00 0x00 0x00 0x0200 0x20
    [(0x0200, [0x4A])]) 0x00 0x00 0x00 0x00 0x0201 0x23
    [] 2 = true := by
  decide

/-- D-S6: `LSR A (0xFF, N was 1)`. -/
theorem test_vector_S6 :
    gives (before 0xFF 0x00 0x00 0x00 0x0200 0xA0
    [(0x0200, [0x4A])]) 0x7F 0x00 0x00 0x00 0x0201 0x21
    [] 2 = true := by
  decide

/-- D-S7: `LSR $10 (0x82)`. -/
theorem test_vector_S7 :
    gives (before 0x00 0x00 0x00 0x00 0x0200 0x20
    [(0x0200, [0x46, 0x10]), (0x0010, [0x82])]) 0x00 0x00 0x00 0x00 0x0202 0x20
    [(0x0010, 0x41)] 5 = true := by
  decide

/-- D-S8: `ROL A (0x55, C = 1)`. -/
theorem test_vector_S8 :
    gives (before 0x55 0x00 0x00 0x00 0x0200 0x21
    [(0x0200, [0x2A])]) 0xAB 0x00 0x00 0x00 0x0201 0xA0
    [] 2 = true := by
  decide

/-- D-S9: `ROL A (0x80, C = 0)`. -/
theorem test_vector_S9 :
    gives (before 0x80 0x00 0x00 0x00 0x0200 0x20
    [(0x0200, [0x2A])]) 0x00 0x00 0x00 0x00 0x0201 0x23
    [] 2 = true := by
  decide

/-- D-S11: `ROL $0300,X (0x40, C = 1)`. -/
theorem test_vector_S11 :
    gives (before 0x00 0x01 0x00 0x00 0x0200 0x21
    [(0x0200, [0x3E, 0x00, 0x03]), (0x0301, [0x40])]) 0x00 0x01 0x00 0x00 0x0203 0xA0
    [(0x0301, 0x81)] 7 = true := by
  decide

/-- D-S12: `ROR A (0x01, C = 0)`. -/
theorem test_vector_S12 :
    gives (before 0x01 0x00 0x00 0x00 0x0200 0x20
    [(0x0200, [0x6A])]) 0x00 0x00 0x00 0x00 0x0201 0x23
    [] 2 = true := by
  decide

/-- D-S13: `ROR A (0x01, C = 1)`. -/
theorem test_vector_S13 :
    gives (before 0x01 0x00 0x00 0x00 0x0200 0x21
    [(0x0200, [0x6A])]) 0x80 0x00 0x00 0x00 0x0201 0xA1
    [] 2 = true := by
  decide

/-- D-S15: `ROR $0300 (0x03, C = 0)`. -/
theorem test_vector_S15 :
    gives (before 0x00 0x00 0x00 0x00 0x0200 0x20
    [(0x0200, [0x6E, 0x00, 0x03]), (0x0300, [0x03])]) 0x00 0x00 0x00 0x00 0x0203 0x21
    [(0x0300, 0x01)] 6 = true := by
  decide

/-- D-S16: `LSR $10,X (memory form leaves A alone)`. -/
theorem test_vector_S16 :
    gives (before 0xAA 0x01 0x00 0x00 0x0200 0x20
    [(0x0200, [0x56, 0x10]), (0x0011, [0x01])]) 0xAA 0x01 0x00 0x00 0x0202 0x23
    [(0x0011, 0x00)] 6 = true := by
  decide

/-- D-C1: `BCC +4 (C = 0, taken)`. -/
theorem test_vector_C1 :
    gives (before 0x00 0x00 0x00 0x00 0x0200 0x20
    [(0x0200, [0x90, 0x04])]) 0x00 0x00 0x00 0x00 0x0206 0x20
    [] 3 = true := by
  decide

/-- D-C2: `BCC +4 (C = 1, not taken)`. -/
theorem test_vector_C2 :
    gives (before 0x00 0x00 0x00 0x00 0x0200 0x21
    [(0x0200, [0x90, 0x04])]) 0x00 0x00 0x00 0x00 0x0202 0x21
    [] 2 = true := by
  decide

/-- D-C3: `BCS +4 (C = 1, taken)`. -/
theorem test_vector_C3 :
    gives (before 0x00 0x00 0x00 0x00 0x0200 0x21
    [(0x0200, [0xB0, 0x04])]) 0x00 0x00 0x00 0x00 0x0206 0x21
    [] 3 = true := by
  decide

/-- D-C4: `BEQ -2 (Z = 1: to itself)`. -/
theorem test_vector_C4 :
    gives (before 0x00 0x00 0x00 0x00 0x0300 0x22
    [(0x0300, [0xF0, 0xFE])]) 0x00 0x00 0x00 0x00 0x0300 0x22
    [] 3 = true := by
  decide

/-- D-C5: `BEQ -2 (Z = 0)`. -/
theorem test_vector_C5 :
    gives (before 0x00 0x00 0x00 0x00 0x0300 0x20
    [(0x0300, [0xF0, 0xFE])]) 0x00 0x00 0x00 0x00 0x0302 0x20
    [] 2 = true := by
  decide

/-- D-C6: `BNE -5 (Z = 0)`. -/
theorem test_vector_C6 :
    gives (before 0x00 0x00 0x00 0x00 0x0205 0x20
    [(0x0205, [0xD0, 0xFB])]) 0x00 0x00 0x00 0x00 0x0202 0x20
    [] 3 = true := by
  decide

/-- D-C7: `BNE +2 across a page`. -/
theorem test_vector_C7 :
    gives (before 0x00 0x00 0x00 0x00 0x02FC 0x20
    [(0x02FC, [0xD0, 0x02])]) 0x00 0x00 0x00 0x00 0x0300 0x20
    [] 4 = true := by
  decide

/-- D-C8: `BMI +127 (N = 1)`. -/
theorem test_vector_C8 :
    gives (before 0x00 0x00 0x00 0x00 0x0200 0xA0
    [(0x0200, [0x30, 0x7F])]) 0x00 0x00 0x00 0x00 0x0281 0xA0
    [] 3 = true := by
  decide

/-- D-C9: `BPL -128 (N = 0)`. -/
theorem test_vector_C9 :
    gives (before 0x00 0x00 0x00 0x00 0x0200 0x20
    [(0x0200, [0x10, 0x80])]) 0x00 0x00 0x00 0x00 0x0182 0x20
    [] 4 = true := by
  decide

/-- D-C10: `BVC +2 (V = 0)`. -/
theorem test_vector_C10 :
    gives (before 0x00 0x00 0x00 0x00 0x0000 0x20
    [(0x0000, [0x50, 0x02])]) 0x00 0x00 0x00 0x00 0x0004 0x20
    [] 3 = true := by
  decide

/-- D-C11: `BVS +2 (V = 0, not taken)`. -/
theorem test_vector_C11 :
    gives (before 0x00 0x00 0x00 0x00 0x0000 0x20
    [(0x0000, [0x70, 0x02])]) 0x00 0x00 0x00 0x00 0x0002 0x20
    [] 2 = true := by
  decide

/-- D-C12: `BVS +2 (V = 1)`. -/
theorem test_vector_C12 :
    gives (before 0x00 0x00 0x00 0x00 0x0000 0x60
    [(0x0000, [0x70, 0x02])]) 0x00 0x00 0x00 0x00 0x0004 0x60
    [] 3 = true := by
  decide

/-- D-C15: `JMP $1234`. -/
theorem test_vector_C15 :
    gives (before 0x00 0x00 0x00 0x00 0x0200 0x20
    [(0x0200, [0x4C, 0x34, 0x12])]) 0x00 0x00 0x00 0x00 0x1234 0x20
    [] 3 = true := by
  decide

/-- D-C16: `JMP $0200 (to itself)`. -/
theorem test_vector_C16 :
    gives (before 0x00 0x00 0x00 0x00 0x0200 0x20
    [(0x0200, [0x4C, 0x00, 0x02])]) 0x00 0x00 0x00 0x00 0x0200 0x20
    [] 3 = true := by
  decide

/-- D-C17: `JSR $0010 from reset`. -/
theorem test_vector_C17 :
    gives (before 0x00 0x00 0x00 0x00 0x0000 0x20
    [(0x0000, [0x20, 0x10, 0x00])]) 0x00 0x00 0x00 0xFE 0x0010 0x20
    [(0x0100, 0x00), (0x01FF, 0x02)] 6 = true := by
  decide

/-- D-C18: `JSR $0300 (SP = 0xFF)`. -/
theorem test_vector_C18 :
    gives (before 0x00 0x00 0x00 0xFF 0x12FE 0x20
    [(0x12FE, [0x20, 0x00, 0x03])]) 0x00 0x00 0x00 0xFD 0x0300 0x20
    [(0x01FF, 0x13), (0x01FE, 0x00)] 6 = true := by
  decide

/-- D-C19: `RTS (after D-C17)`. -/
theorem test_vector_C19 :
    gives (before 0x00 0x00 0x00 0xFE 0x0010 0x20
    [(0x0010, [0x60]), (0x01FF, [0x02]), (0x0100, [0x00])]) 0x00 0x00 0x00 0x00 0x0003 0x20
    [] 6 = true := by
  decide

/-- D-C20: `RTS (pulled 0xFFFF)`. -/
theorem test_vector_C20 :
    gives (before 0x00 0x00 0x00 0xFD 0x0300 0x20
    [(0x0300, [0x60]), (0x01FE, [0xFF, 0xFF])]) 0x00 0x00 0x00 0xFF 0x0000 0x20
    [] 6 = true := by
  decide

/-- D-K1: `PHA from reset (A = 0x42)`. -/
theorem test_vector_K1 :
    gives (before 0x42 0x00 0x00 0x00 0x0200 0x20
    [(0x0200, [0x48])]) 0x42 0x00 0x00 0xFF 0x0201 0x20
    [(0x0100, 0x42)] 3 = true := by
  decide

/-- D-K2: `PHP from reset`. -/
theorem test_vector_K2 :
    gives (before 0x00 0x00 0x00 0x00 0x0200 0x20
    [(0x0200, [0x08])]) 0x00 0x00 0x00 0xFF 0x0201 0x20
    [(0x0100, 0x30)] 3 = true := by
  decide

/-- D-K3: `PHP (P = 0xA1, SP = 0xFF)`. -/
theorem test_vector_K3 :
    gives (before 0x00 0x00 0x00 0xFF 0x0200 0xA1
    [(0x0200, [0x08])]) 0x00 0x00 0x00 0xFE 0x0201 0xA1
    [(0x01FF, 0xB1)] 3 = true := by
  decide

/-- D-K4: `PLA (SP = 0xFF wraps; pulls 0x00)`. -/
theorem test_vector_K4 :
    gives (before 0x55 0x00 0x00 0xFF 0x0200 0x20
    [(0x0200, [0x68])]) 0x00 0x00 0x00 0x00 0x0201 0x22
    [] 4 = true := by
  decide

/-- D-K5: `PLA (pulls 0x80)`. -/
theorem test_vector_K5 :
    gives (before 0x00 0x00 0x00 0xFC 0x0200 0x20
    [(0x0200, [0x68]), (0x01FD, [0x80])]) 0x80 0x00 0x00 0xFD 0x0201 0xA0
    [] 4 = true := by
  decide

/-- D-K6: `PLP (pulls 0xFF)`. -/
theorem test_vector_K6 :
    gives (before 0x00 0x00 0x00 0xFF 0x0200 0x20
    [(0x0200, [0x28]), (0x0100, [0xFF])]) 0x00 0x00 0x00 0x00 0x0201 0xEF
    [] 4 = true := by
  decide

/-- D-K7: `PLP (pulls 0x00, P was 0xEF)`. -/
theorem test_vector_K7 :
    gives (before 0x00 0x00 0x00 0xFC 0x0200 0xEF
    [(0x0200, [0x28]), (0x01FD, [0x00])]) 0x00 0x00 0x00 0xFD 0x0201 0x20
    [] 4 = true := by
  decide

/-- D-K8: `CLC`. -/
theorem test_vector_K8 :
    gives (before 0x00 0x00 0x00 0x00 0x0200 0x21
    [(0x0200, [0x18])]) 0x00 0x00 0x00 0x00 0x0201 0x20
    [] 2 = true := by
  decide

/-- D-K9: `SEC`. -/
theorem test_vector_K9 :
    gives (before 0x00 0x00 0x00 0x00 0x0200 0x20
    [(0x0200, [0x38])]) 0x00 0x00 0x00 0x00 0x0201 0x21
    [] 2 = true := by
  decide

/-- D-K10: `CLI`. -/
theorem test_vector_K10 :
    gives (before 0x00 0x00 0x00 0x00 0x0200 0x24
    [(0x0200, [0x58])]) 0x00 0x00 0x00 0x00 0x0201 0x20
    [] 2 = true := by
  decide

/-- D-K11: `SEI`. -/
theorem test_vector_K11 :
    gives (before 0x00 0x00 0x00 0x00 0x0200 0x20
    [(0x0200, [0x78])]) 0x00 0x00 0x00 0x00 0x0201 0x24
    [] 2 = true := by
  decide

/-- D-K12: `CLD`. -/
theorem test_vector_K12 :
    gives (before 0x00 0x00 0x00 0x00 0x0200 0x28
    [(0x0200, [0xD8])]) 0x00 0x00 0x00 0x00 0x0201 0x20
    [] 2 = true := by
  decide

/-- D-K13: `SED`. -/
theorem test_vector_K13 :
    gives (before 0x00 0x00 0x00 0x00 0x0200 0x20
    [(0x0200, [0xF8])]) 0x00 0x00 0x00 0x00 0x0201 0x28
    [] 2 = true := by
  decide

/-- D-K14: `CLV`. -/
theorem test_vector_K14 :
    gives (before 0x00 0x00 0x00 0x00 0x0200 0x60
    [(0x0200, [0xB8])]) 0x00 0x00 0x00 0x00 0x0201 0x20
    [] 2 = true := by
  decide

/-- D-K15: `NOP (all flags set stay set)`. -/
theorem test_vector_K15 :
    gives (before 0x01 0x02 0x03 0x04 0x0200 0xEF
    [(0x0200, [0xEA])]) 0x01 0x02 0x03 0x04 0x0201 0xEF
    [] 2 = true := by
  decide

/-- D-K16: `BRK from reset, memory all zero`. -/
theorem test_vector_K16 :
    gives (before 0x00 0x00 0x00 0x00 0x0000 0x20
    [(0x0000, [0x00])]) 0x00 0x00 0x00 0xFD 0x0000 0x24
    [(0x0100, 0x00), (0x01FF, 0x02), (0x01FE, 0x30)] 7 = true := by
  decide

/-- D-K17: `BRK at 0x0206 (SP = 0xFF, P = 0x21, vector 0x0300)`. -/
theorem test_vector_K17 :
    gives (before 0x01 0x00 0x00 0xFF 0x0206 0x21
    [(0x0206, [0x00, 0x02]), (0xFFFE, [0x00, 0x03])]) 0x01 0x00 0x00 0xFC 0x0300 0x25
    [(0x01FF, 0x02), (0x01FE, 0x08), (0x01FD, 0x31)] 7 = true := by
  decide

/-- D-K19: `RTI (after D-K16, stack untouched)`. -/
theorem test_vector_K19 :
    gives (before 0x00 0x00 0x00 0xFD 0x0300 0x24
    [(0x0300, [0x40]), (0x01FE, [0x30, 0x02]), (0x0100, [0x00])]) 0x00 0x00 0x00 0x00 0x0002 0x20
    [] 6 = true := by
  decide

/-- D-K20: `RTI (after D-K17)`. -/
theorem test_vector_K20 :
    gives (before 0x00 0x00 0x00 0xFC 0x0302 0x24
    [(0x0302, [0x40]), (0x01FD, [0x31, 0x08, 0x02])]) 0x00 0x00 0x00 0xFF 0x0208 0x21
    [] 6 = true := by
  decide

/-- D-F1: `unmapped 0x02 with a non-reset state`. -/
theorem test_vector_F1 :
    faults (before 0x01 0x02 0x03 0xF0 0x1234 0xE3
    [(0x1234, [0x02])]) (.decodeError 0x1234 0x02) = true := by
  decide

/-- D-F2: `NOP at 0xFFFF (PC wraps)`. -/
theorem test_vector_F2 :
    gives (before 0x00 0x00 0x00 0x00 0xFFFF 0x20
    [(0xFFFF, [0xEA])]) 0x00 0x00 0x00 0x00 0x0000 0x20
    [] 2 = true := by
  decide

/-- D-F4: `LDA $hhll at 0xFFFE (operand bytes at 0xFFFF, 0x0000)`. -/
theorem test_vector_F4 :
    gives (before 0x00 0x00 0x00 0x00 0xFFFE 0x20
    [(0xFFFE, [0xAD, 0x10]), (0x0000, [0x03]), (0x0310, [0x6D])]) 0x6D 0x00 0x00 0x00 0x0001 0x20
    [] 4 = true := by
  decide

/-- D-F5: `unmapped 0xFF (highest byte)`. -/
theorem test_vector_F5 :
    faults (before 0x00 0x00 0x00 0x00 0x0200 0x20
    [(0x0200, [0xFF])]) (.decodeError 0x0200 0xFF) = true := by
  decide

/-- D-F6: `unmapped 0x80 (an immediate NOP on real NMOS chips)`. -/
theorem test_vector_F6 :
    faults (before 0x00 0x00 0x00 0x00 0x0200 0x20
    [(0x0200, [0x80, 0x00])]) (.decodeError 0x0200 0x80) = true := by
  decide

/-- D-F7: `unmapped 0x1A (a one-byte NOP on real NMOS chips)`. -/
theorem test_vector_F7 :
    faults (before 0x00 0x00 0x00 0x00 0x0200 0x20
    [(0x0200, [0x1A])]) (.decodeError 0x0200 0x1A) = true := by
  decide

/-- D-F8: `unmapped 0xA7 (LAX on real NMOS chips)`. -/
theorem test_vector_F8 :
    faults (before 0x00 0x00 0x00 0x00 0x0200 0x20
    [(0x0200, [0xA7, 0x10]), (0x0010, [0x55])]) (.decodeError 0x0200 0xA7) = true := by
  decide

/-! The parameters of 00_scope.md R6 away from their defaults. -/

/-- `TABLE_PROFILE = source_shown`: NOP is a decode error (95_test_vectors.md section 2.7, last note). -/
theorem test_source_shown_step :
    faults { before 0x00 0x00 0x00 0x00 0x0200 0x20 [(0x0200, [0xEA])] with
      cfg := { Config.standard with tableProfile := .sourceShown } } (.decodeError 0x0200 0xEA) = true := by
  decide

/-- ADC with D = 1 and `DECIMAL_MODE = refuse` (R181): no result. -/
theorem test_decimal_refuse :
    (match step { before 0x28 0x00 0x00 0x00 0x0200 0x28 [(0x0200, [0x69, 0x19])] with
      cfg := { Config.standard with decimalMode := .refuse } } with
    | .refused r => r == .decimalMode
    | _ => false) = true := by
  decide

/-- The same with D = 0 computes. -/
theorem test_decimal_refuse_clear :
    gives { before 0x28 0x00 0x00 0x00 0x0200 0x20 [(0x0200, [0x69, 0x19])] with
      cfg := { Config.standard with decimalMode := .refuse } } 0x41 0x00 0x00 0x00 0x0202 0x20 [] 2 = true := by
  decide

/-- A machine that rejects 0x0100 to 0x01FF. -/
def rejecting (s : State) : State := { s with cfg := { Config.standard with busRejects := [⟨0x0100, 0x01FF⟩] } }

/-- The first push of a JSR is rejected: an addressing error with the entry PC and that address (60_exceptions.md R312). -/
theorem test_rejected_push :
    faults (rejecting (before 0x00 0x00 0x00 0xFF 0x12FE 0x20 [(0x12FE, [0x20, 0x00, 0x03])]))
      (.addressingError 0x12FE 0x01FF) = true := by
  decide

/-- A rejected fetch comes before the decode error (R317). -/
theorem test_rejected_fetch :
    faults (rejecting (before 0x00 0x00 0x00 0x00 0x0180 0x20 [(0x0180, [0x02])])) (.addressingError 0x0180 0x0180) =
      true := by
  decide

/-- A decode error comes before an operand byte is read: 0x0100 is never accessed (R317). -/
theorem test_decode_error_before_operand :
    faults (rejecting (before 0x00 0x00 0x00 0x00 0x00FF 0x20 [(0x00FF, [0x02])])) (.decodeError 0x00FF 0x02) =
      true := by
  decide

/-! Accesses, latches, the host. -/

/-- INC reads the operand byte, reads the byte and writes it back once (20_memory.md R57). -/
theorem test_accesses_inc :
    stepAccesses (before 0x00 0x00 0x00 0x00 0x0200 0x20 [(0x0200, [0xE6, 0x10]), (0x0010, [0x7F])]) =
      [.read 0x0200 0xE6, .read 0x0201 0x10, .read 0x0010 0x7F, .write 0x0010 0x80] := by
  decide

/-- The latches after a store (10_state.md R35): opcode, last byte moved, effective address. -/
theorem test_latches :
    (let t := stepCommand (before 0x42 0x20 0x00 0x00 0x0200 0x20 [(0x0200, [0x9D, 0xF0, 0x12])])
     (t.opcode, t.dataBus, t.addrBus)) = (0x9D, 0x42, 0x1310) := by
  decide

/-- reset after D-F1: registers and latches at their construction values, memory kept (95_test_vectors.md section 2.7). -/
theorem test_reset_command :
    resetCommand (before 0x01 0x02 0x03 0xF0 0x1234 0xE3 [(0x1234, [0x02])]) =
      before 0x00 0x00 0x00 0x00 0x0000 0x20 [(0x1234, [0x02])] := by
  decide

/-- Writing 0x00 takes the entry out of the list, so memory is back at its construction value. -/
theorem test_memory_is_canonical : hostWrite 0x1234 0x00 (hostWrite 0x1234 0x02 State.reset) = State.reset := by
  decide

/-- The outcome output (60_exceptions.md R314). -/
theorem test_report :
    stepReport publishedCycles (before 0x00 0x00 0x00 0x00 0x0000 0x20 [(0x0000, [0xA9, 0x00])]) = .completed 2 ∧
    (stepReport publishedCycles (before 0x00 0x00 0x00 0x00 0x0000 0x20 [(0x0000, [0x02])])).code = some 1 := by
  decide

/-- The mnemonic observer (R326): BRK after reset with the full table, none under source_shown (R88: 0x00 has no entry
there), LDA after an LDA under either. -/
theorem test_observedMnemonic :
    observedMnemonic State.reset = some .BRK ∧
    (let s := { before 0x00 0x00 0x00 0x00 0x0000 0x20 [(0x0000, [0xA9, 0x00])] with
        cfg := { Config.standard with tableProfile := .sourceShown } }
     observedMnemonic s = none ∧ observedMnemonic (stepCommand s) = some .LDA) := by
  decide

/-- The placed word runs as the next step: NOP, then ADC Absolute with its operand. -/
theorem test_withFetchWord :
    gives (State.reset.withFetchWord 8 0xEA) 0x00 0x00 0x00 0x00 0x0001 0x20 [] 2 = true ∧
    gives ((hostWrite 0x1234 0x22 State.reset).withFetchWord 24 0x12346D) 0x22 0x00 0x00 0x00 0x0003 0x20 [] 4 =
      true := by
  decide

/-! ## The hypotheses of the obligations are met

`witness_<Name>` shows states and operands that meet all hypotheses of `Obligations.<Name>` together, a conjunct for
each clause with hypotheses of its own. -/

/-- The state of a next outcome. -/
def stateOf : Result → State
  | .next t => t
  | .fault _ => State.reset
  | .refused _ => State.reset

/-- A state past the fetch with the stack in use and C set. -/
def mid : State := before 0x42 0x10 0x20 0xF0 0x0201 0x21 [(0x01F1, [0xB1, 0x34, 0x12]), (0x0034, [0x80, 0x02])]

/-- The decimal flag set, ADC and SBC without a meaning. -/
def refusing : State :=
  { before 0x42 0x10 0x20 0xF0 0x0201 0x28 [] with cfg := { Config.standard with decimalMode := .refuse } }

theorem witness_DecodeOfEncodeIsTheInstruction :
    Instr.wellFormed .sourceShown (.ldaAbs 0xFF01) = true ∧ Instr.wellFormed .full (.jmpInd 0xFF01) = true := by
  decide

theorem witness_EncodeOfDecodeIsTheBytes :
    decode .sourceShown [0xAD, 0x01, 0xFF, 0x02] = .instr (.ldaAbs 0xFF01) [0x02] ∧
    decode .full [0x6C, 0x01, 0xFF] = .instr (.jmpInd 0xFF01) [] := by
  decide

theorem witness_UnmappedBytesAreRejectedByName :
    (0x02 : Byte) ∈ unmappedBytes ∧ (0xFF : Byte) ∈ unmappedBytes ∧ (0x00 : Byte) ∉ unmappedBytes ∧
    (0xFE : Byte) ∉ unmappedBytes ∧ (0xBD : Byte) ∉ ([0xA9, 0xA5, 0xB5, 0xAD, 0xA1] : List Byte) ∧
    (0xA1 : Byte) ∈ ([0xA9, 0xA5, 0xB5, 0xAD, 0xA1] : List Byte) := by
  decide

/-- An instruction whose operand bytes wrap from 0xFFFF to 0x0000. -/
def wrapping : State := before 0x00 0x00 0x00 0x00 0xFFFE 0x20 [(0xFFFE, [0xAD, 0x10, 0x03])]

theorem holdsAtPC_of_all {s : State} {i : Instr}
    (h : ∀ n < (encode i).length, (encode i)[n]? = some (s.byteAt (s.pc + BitVec.ofNat 16 n))) : HoldsAtPC s i := by
  intro n b hb
  have hn : n < (encode i).length := (List.getElem?_eq_some_iff.1 hb).1
  exact Option.some.inj ((h n hn).symm.trans hb)

theorem witness_StepRunsTheDecodedInstruction :
    rejects wrapping.cfg wrapping.pc = false ∧ decodeAt wrapping = some (.ldaAbs 0x0310) ∧
    Instr.wellFormed wrapping.cfg.tableProfile (.ldaAbs 0x0310) = true ∧ HoldsAtPC wrapping (.ldaAbs 0x0310) :=
  ⟨by decide, by decide, by decide, holdsAtPC_of_all (by decide)⟩

theorem witness_UnmappedOpcodeIsADecodeError :
    (let s := before 0x01 0x02 0x03 0xF0 0x1234 0xE3 [(0x1234, [0x02])]
     rejects s.cfg s.pc = false ∧ lookup s.cfg.tableProfile (s.byteAt s.pc) = none) := by
  decide

theorem witness_EveryStepOnTheArrayAnswers :
    OnArrayBus State.reset ∧ State.reset.cfg.decimalMode = .binaryOnly := by
  decide

theorem witness_RejectedAccessIsAnAddressingError :
    (let s := rejecting (before 0x00 0x00 0x00 0xFF 0x12FE 0x20 [(0x12FE, [0x20, 0x00, 0x03])])
     s.cfg.decimalMode = .binaryOnly ∧
      (stepAccesses s).find? (fun y => rejects s.cfg y.addr) = some (.write 0x01FF 0x13)) ∧
    (let s := rejecting (before 0x00 0x00 0x00 0xFF 0x12FE 0x20 [(0x12FE, [0xEA])])
     s.cfg.decimalMode = .binaryOnly ∧ ∀ x ∈ stepAccesses s, rejects s.cfg x.addr = false) := by
  decide

theorem witness_StepAccessesReplayOnMemory : step State.reset = .next (stateOf (step State.reset)) := rfl

theorem witness_LatchesAfterAStep :
    decodeAt State.reset = some .brk ∧ step State.reset = .next (stateOf (step State.reset)) ∧
    (let s := before 0x01 0x02 0x03 0xF0 0x1234 0xE3 [(0x1234, [0x02])]
     step s = .fault (.decodeError 0x1234 0x02)) :=
  ⟨by decide, rfl, rfl⟩

theorem inv_of_bits {s : State} (h : s.flag .U = true ∧ s.flag .B = false ∧ Memory.wf s.mem) : s.Inv :=
  ⟨h.1, h.2.1, h.2.2⟩

theorem witness_InvariantIsKeptByEveryStep :
    wrapping.Inv ∧ step wrapping = .next (stateOf (step wrapping)) :=
  ⟨inv_of_bits (by decide), rfl⟩

theorem witness_ReachableStatesKeepUnusedSet :
    Reachable (Command.perform .step (Command.perform (.write 0x0000 0x28) State.reset)) :=
  .perform _ _ (.perform _ _ (.construct Config.standard))

theorem witness_ResetCommandGivesTheConstructionState : mid.cfg = State.reset.cfg := by decide

/-- The last byte of a load that wraps, and an address outside it. -/
theorem witness_LoadedProgramReadsBack :
    Memory.wf mid.mem ∧ ([0xA9, 0x05] : List Byte).length ≤ 65536 ∧ ([0xA9, 0x05] : List Byte)[1]? = some 0x05 ∧
    ∀ n < ([0xA9, 0x05] : List Byte).length, (0x0001 : Word) ≠ 0xFFFF + BitVec.ofNat 16 n := by
  decide

theorem witness_EqualMemoriesAreEqualData :
    Memory.wf mid.mem ∧ Memory.wf mid.mem ∧
      ∀ addr : Word, Memory.read mid.mem addr.toNat = Memory.read mid.mem addr.toNat :=
  ⟨by decide, by decide, fun _ => rfl⟩

theorem witness_FlagUpdaterWritesOneBit : Flag.N ≠ .U ∧ Flag.N ≠ .C := by decide

theorem witness_FlagsNotListedAreUnchanged :
    exec (.adcImm 0x7F) mid = .next (stateOf (exec (.adcImm 0x7F) mid)) ∧ Flag.D ∉ flagsWritten Mnemonic.ADC :=
  ⟨rfl, by decide⟩

theorem witness_InterruptDisableAndDecimalArePlainStorage :
    (Instr.adcImm 0x7F).mnemonic ≠ .PHP ∧ (Instr.adcImm 0x7F).mnemonic ≠ .BRK ∧ mid.cfg.decimalMode = .binaryOnly ∧
    exec (.adcImm 0x7F) mid = .next (stateOf (exec (.adcImm 0x7F) mid)) :=
  ⟨by decide, by decide, by decide, rfl⟩

theorem witness_RegistersChangeOnlyUnderTheirWriters :
    exec .nop mid = .next (stateOf (exec .nop mid)) ∧ writesA .nop = false ∧ writesX .nop = false ∧
    writesY .nop = false ∧ writesSP .nop = false :=
  ⟨rfl, by decide, by decide, by decide, by decide⟩

theorem witness_ProgramCounterAdvancesPastTheInstruction :
    exec (.ldaAbs 0x0034) mid = .next (stateOf (exec (.ldaAbs 0x0034) mid)) ∧ transfersControl (.ldaAbs 0x0034) = false :=
  ⟨rfl, by decide⟩

/-- One instruction for each clause. -/
theorem witness_MemoryChangesOnlyWhereStored :
    (exec (.ldaAbs 0x0034) mid = .next (stateOf (exec (.ldaAbs 0x0034) mid)) ∧ writesMemory (.ldaAbs 0x0034) = false) ∧
    (exec (.incAbs 0x0034) mid = .next (stateOf (exec (.incAbs 0x0034) mid)) ∧
      (Instr.incAbs 0x0034).mnemonic ∈ ([.STA, .STX, .STY, .INC, .DEC, .ASL, .LSR, .ROL, .ROR] : List Mnemonic) ∧
      effectiveAddress (Instr.incAbs 0x0034).operand mid = some 0x0034) ∧
    (exec .pha mid = .next (stateOf (exec .pha mid)) ∧ Instr.pha.mnemonic ∈ ([.PHA, .PHP] : List Mnemonic)) ∧
    (exec (.jsr 0x1234) mid = .next (stateOf (exec (.jsr 0x1234) mid)) ∧ (Instr.jsr 0x1234).mnemonic = .JSR) ∧
    (exec .brk mid = .next (stateOf (exec .brk mid)) ∧ Instr.brk.mnemonic = .BRK) :=
  ⟨⟨rfl, by decide⟩, ⟨rfl, by decide, by decide⟩, ⟨rfl, by decide⟩, ⟨rfl, rfl⟩, ⟨rfl, rfl⟩⟩

/-- The boundary bits. -/
theorem witness_ShiftsAndRotatesMoveOneBit : 0 < 8 ∧ 7 < 8 := by decide

theorem witness_ZeroPageIndexedWrapsInPageZero :
    (before 0x00 0x02 0x20 0x00 0x0201 0x20 []).x = 0x02 ∧ (before 0x00 0x02 0x20 0x00 0x0201 0x20 []).y = 0x20 := by
  decide

/-- A mode without a page test; and the base of each of the four with one is a value. -/
theorem witness_ResolverWritesOnlyThePC :
    (Operand.zpx 0xFF).mode ∉ ([.absx, .absy, .indy, .rel] : List Mode) ∧
    (∃ base : Word, base = 0xFFFF) ∧ (∃ base : Word, base = mid.pc + 1) ∧
    ∃ base : Word, base = join (mid.byteAt (zext16 (0xFF + 1))) (mid.byteAt (zext16 0xFF)) :=
  ⟨by decide, ⟨_, rfl⟩, ⟨_, rfl⟩, ⟨_, rfl⟩⟩

/-- A branch taken across a page, and a read-class instruction that crosses one. -/
theorem witness_StepCyclesAddPageAndBranchExtras :
    decodeAt (before 0x00 0x00 0x00 0x00 0x0200 0x20 [(0x0200, [0x10, 0x80])]) = some (.bpl 0x80) ∧
    decodeAt (before 0x00 0x10 0x00 0x00 0x0200 0x20 [(0x0200, [0xBD, 0xF0, 0x12])]) = some (.ldaAbsx 0x12F0) := by
  decide

/-- The hypotheses the statements about one instruction share: the bus of the 64 KB array and a canonical memory. -/
theorem witness_array_and_canonical : OnArrayBus mid ∧ Memory.wf mid.mem := by decide

theorem witness_LdaLoadsTheOperand : (Instr.ldaIndy 0x34).mnemonic = .LDA ∧ OnArrayBus mid := by decide

theorem witness_LdxAndLdyLoadTheOperand :
    OnArrayBus mid ∧ (Instr.ldxZpy 0xFF).mnemonic = .LDX ∧ (Instr.ldyZpx 0xFF).mnemonic = .LDY := by
  decide

theorem witness_StoresWriteTheRegisterAtTheAddress :
    OnArrayBus mid ∧ Memory.wf mid.mem ∧ ((Instr.staIndx 0x24).mnemonic = .STA ∧ (0x42 : Byte) = mid.a) ∧
    ((Instr.stxZpy 0xFF).mnemonic = .STX ∧ (0x10 : Byte) = mid.x) ∧
    ((Instr.styZpx 0xFF).mnemonic = .STY ∧ (0x20 : Byte) = mid.y) := by
  decide

theorem witness_TransfersCopyARegister : OnArrayBus mid := by decide

theorem witness_AdcAndSbcAccumulateWithCarry :
    OnArrayBus mid ∧ (Instr.adcImm 0x40).mnemonic = .ADC ∧ (Instr.sbcZp 0x34).mnemonic = .SBC ∧ DecimalAllowed mid := by
  decide

theorem witness_LogicCombinesIntoA :
    OnArrayBus mid ∧ (Instr.andImm 0x40).mnemonic = .AND ∧ (Instr.oraZp 0x34).mnemonic = .ORA ∧
    (Instr.eorIndy 0x34).mnemonic = .EOR := by
  decide

theorem witness_BitTestsTheMemoryByte : (Instr.bitZp 0x34).mnemonic = .BIT ∧ OnArrayBus mid := by decide

theorem witness_ComparesSetFlagsOnly :
    OnArrayBus mid ∧ ((Instr.cmpImm 0x42).mnemonic = .CMP ∧ (0x42 : Byte) = mid.a) ∧
    ((Instr.cpxZp 0x34).mnemonic = .CPX ∧ (0x10 : Byte) = mid.x) ∧
    ((Instr.cpyAbs 0x0034).mnemonic = .CPY ∧ (0x20 : Byte) = mid.y) := by
  decide

theorem witness_IncAndDecModifyMemory :
    (Instr.incZp 0x34).mnemonic = .INC ∧ (Instr.decAbsx 0xFFFF).mnemonic = .DEC ∧ OnArrayBus mid ∧
    Memory.wf mid.mem := by
  decide

theorem witness_IndexRegistersCountModulo256 : OnArrayBus mid := by decide

theorem witness_ShiftsGoToAOrMemory :
    OnArrayBus mid ∧ Memory.wf mid.mem ∧ Instr.aslAcc.mnemonic = .ASL ∧ (Instr.lsrZp 0x34).mnemonic = .LSR ∧
    exec (.lsrZp 0x34) mid = .next (stateOf (exec (.lsrZp 0x34) mid)) :=
  ⟨by decide, by decide, rfl, rfl, rfl⟩

theorem witness_RotatesGoThroughTheCarry :
    OnArrayBus mid ∧ Memory.wf mid.mem ∧ (Instr.rolZp 0x34).mnemonic = .ROL ∧ Instr.rorAcc.mnemonic = .ROR ∧
    exec .rorAcc mid = .next (stateOf (exec .rorAcc mid)) :=
  ⟨by decide, by decide, rfl, rfl, rfl⟩

/-- Taken and not taken. -/
theorem witness_BranchesFollowTheirFlag :
    branchCondition (Instr.bcs 0x80).mnemonic mid = some true ∧
    branchCondition (Instr.bcc 0x7F).mnemonic mid = some false ∧ OnArrayBus mid := by
  decide

theorem witness_JmpGoesToTheAddress :
    (Instr.jmpAbs 0x1234).mnemonic = .JMP ∧ (Instr.jmpInd 0x02FF).mnemonic = .JMP ∧ OnArrayBus mid := by
  decide

/-- The stack pointer at the wrap. -/
def atWrap : State := before 0x42 0x00 0x00 0x00 0x0201 0x20 []

theorem witness_JsrPushesTheLastByteAddress : OnArrayBus atWrap ∧ Memory.wf atWrap.mem := by decide

theorem witness_RtsReturnsToThePulledAddressPlusOne : OnArrayBus mid := by decide

theorem witness_StackInstructionsPushAndPull : OnArrayBus atWrap ∧ Memory.wf atWrap.mem := by decide

theorem witness_PlpTakesSixFlags : OnArrayBus mid ∧ mid.Inv := ⟨by decide, inv_of_bits (by decide)⟩

theorem witness_FlagInstructionsAndNop :
    OnArrayBus mid ∧ (Instr.clv, Flag.V, false) ∈ ([(.clc, .C, false), (.sec, .C, true), (.cli, .I, false),
      (.sei, .I, true), (.cld, .D, false), (.sed, .D, true), (.clv, .V, false)] : List (Instr × Flag × Bool)) := by
  decide

theorem witness_BrkTakesTheTrap : OnArrayBus atWrap ∧ Memory.wf atWrap.mem := by decide

theorem witness_RtiRestoresFlagsAndAddress : OnArrayBus mid := by decide

/-- A handler that changed A and C. -/
theorem witness_RtiUndoesBrk :
    (let t := stateOf (exec .brk mid)
     let u := { t with a := 0x99, p := setFlag .C false t.p }
     OnArrayBus mid ∧ mid.Inv ∧ exec .brk mid = .next t ∧ u.Inv ∧ OnArrayBus u ∧ u.sp = t.sp ∧ u.mem = t.mem) :=
  ⟨by decide, inv_of_bits (by decide), rfl, inv_of_bits (by decide), by decide, rfl, rfl⟩

theorem witness_RtsReturnsPastTheJsr :
    (let t := stateOf (exec (.jsr 0x0300) atWrap)
     let u := { t with a := 0x99 }
     OnArrayBus atWrap ∧ Memory.wf atWrap.mem ∧ exec (.jsr 0x0300) atWrap = .next t ∧ OnArrayBus u ∧ u.sp = t.sp ∧
      u.mem = t.mem) :=
  ⟨by decide, by decide, rfl, by decide, rfl, rfl⟩

/-- One of the two in a state without a meaning, and that it is refused. -/
theorem witness_RefusalIsDecimalModeOnly :
    (Instr.adcImm 0x40).mnemonic = .ADC ∧ (Instr.sbcZp 0x34).mnemonic = .SBC ∧ ¬ DecimalAllowed refusing ∧
    exec (.adcImm 0x40) refusing = .refused .decimalMode :=
  ⟨rfl, rfl, by decide, rfl⟩

theorem witness_MnemonicObserverFollowsTheLatch :
    decodeAt wrapping = some (.ldaAbs 0x0310) ∧ step wrapping = .next (stateOf (step wrapping)) :=
  ⟨by decide, rfl⟩

end Sys2Proof.Tests
end

section
/-! SUPPORT. The frame of an instruction: an induction over the handlers that says once what an instruction may
change, in the terms of the spec's tables of writers (10_state.md R21 to R24, R29). -/

namespace Sys2Proof.Machine

/-- The flags that PLP and RTI take from the pulled byte, as six calls of the flag updater (46_stack_flags_system.md
R253). -/
theorem Work.pullStatus_eq_setFlags (w : Work) :
    w.pullStatus = (((((w.pull.2.setFlag .C (w.pull.1.getLsbD 0)).setFlag .Z (w.pull.1.getLsbD 1)).setFlag .I
      (w.pull.1.getLsbD 2)).setFlag .D (w.pull.1.getLsbD 3)).setFlag .V (w.pull.1.getLsbD 6)).setFlag .N
      (w.pull.1.getLsbD 7) := by
  simp [Work.pullStatus, setPulledFlags, Work.setFlag, Work.upd, State.setP]

/-- An observation `g` of the state that does not see what the instruction `i` may change. Each register, each flag and
memory counts only where `i` is listed as its writer; the data and address latches count always (10_state.md R35). -/
structure Frame {α : Type} (i : Instr) (g : State → α) : Prop where
  setA : ∀ v s, writesA i = true → g (s.setA v) = g s := by intros; rfl
  setX : ∀ v s, writesX i = true → g (s.setX v) = g s := by intros; rfl
  setY : ∀ v s, writesY i = true → g (s.setY v) = g s := by intros; rfl
  setSP : ∀ v s, writesSP i = true → g (s.setSP v) = g s := by intros; rfl
  setPC : ∀ v s, transfersControl i = true → g (s.setPC v) = g s := by intros; rfl
  setFlag : ∀ f c s, f ∈ flagsWritten i.mnemonic → g (s.setP (Machine.setFlag f c s.p)) = g s := by intros; rfl
  store : ∀ b v s, writesMemory i = true → g (s.store b v) = g s := by intros; rfl
  setDataBus : ∀ v s, g (s.setDataBus v) = g s := by intros; rfl
  setAddrBus : ∀ v s, g (s.setAddrBus v) = g s := by intros; rfl

namespace Frame

variable {α : Type} {i : Instr} {g : State → α} {w : Work} {c : α}

section
variable (k : Frame i g)
include k

/-! Each operation of a handler keeps the observed value. The condition that the instruction is a listed writer is
computed from the mnemonic, which the context of a use names. -/

theorem updA (v : Byte) (h : g w.st = c) (ha : writesA i = true := by simp [writesA, *]) :
    g (w.upd (State.setA v)).st = c := (k.setA _ _ ha).trans h

theorem updX (v : Byte) (h : g w.st = c) (hx : writesX i = true := by simp [writesX, *]) :
    g (w.upd (State.setX v)).st = c := (k.setX _ _ hx).trans h

theorem updY (v : Byte) (h : g w.st = c) (hy : writesY i = true := by simp [writesY, *]) :
    g (w.upd (State.setY v)).st = c := (k.setY _ _ hy).trans h

theorem updSP (f : State → Byte) (h : g w.st = c) (hs : writesSP i = true := by simp [writesSP, *]) :
    g (w.upd fun s => s.setSP (f s)).st = c := (k.setSP _ _ hs).trans h

theorem updPC (v : Word) (h : g w.st = c) (hp : transfersControl i = true := by simp [transfersControl, *]) :
    g (w.upd (State.setPC v)).st = c := (k.setPC _ _ hp).trans h

theorem updFlag (f : Flag) (b : Bool) (h : g w.st = c)
    (hf : f ∈ flagsWritten i.mnemonic := by simp [flagsWritten, *]) : g (w.setFlag f b).st = c :=
  (k.setFlag _ _ _ hf).trans h

theorem updNZ (r : Byte) (h : g w.st = c)
    (hn : .N ∈ flagsWritten i.mnemonic := by simp [flagsWritten, *])
    (hz : .Z ∈ flagsWritten i.mnemonic := by simp [flagsWritten, *]) : g (w.setNZ r).st = c :=
  k.updFlag .N _ (k.updFlag .Z _ h hz) hn

theorem updCNZ (q : Carried) (h : g w.st = c)
    (hn : .N ∈ flagsWritten i.mnemonic := by simp [flagsWritten, *])
    (hz : .Z ∈ flagsWritten i.mnemonic := by simp [flagsWritten, *])
    (hc : .C ∈ flagsWritten i.mnemonic := by simp [flagsWritten, *]) : g (setCNZ q w).st = c :=
  k.updNZ _ (k.updFlag .C _ h hc) hn hz

theorem read (b : Word) (h : g w.st = c) : g (w.read b).2.st = c := (k.setDataBus _ _).trans h

theorem read16 (b : Word) (h : g w.st = c) : g (w.read16 b).2.st = c := k.read _ (k.read _ h)

theorem write (b : Word) (v : Byte) (h : g w.st = c) (hm : writesMemory i = true := by simp [writesMemory, *]) :
    g (w.write b v).st = c := ((k.setDataBus _ _).trans (k.store _ _ _ hm)).trans h

theorem readOperand (h : g w.st = c) : g (Machine.readOperand w).2.st = c := by
  obtain ⟨d, hd⟩ := readOperand_st w
  rw [hd, k.setDataBus, h]

theorem push (v : Byte) (h : g w.st = c) (hm : writesMemory i = true := by simp [writesMemory, *])
    (hs : writesSP i = true := by simp [writesSP, *]) : g (w.push v).st = c := k.updSP _ (k.write _ _ h hm) hs

theorem push16 (v : Word) (h : g w.st = c) (hm : writesMemory i = true := by simp [writesMemory, *])
    (hs : writesSP i = true := by simp [writesSP, *]) : g (w.push16 v).st = c := k.push _ (k.push _ h hm hs) hm hs

theorem pull (h : g w.st = c) (hs : writesSP i = true := by simp [writesSP, *]) : g w.pull.2.st = c :=
  k.read _ (k.updSP _ h hs)

theorem pull16 (h : g w.st = c) (hs : writesSP i = true := by simp [writesSP, *]) : g w.pull16.2.st = c :=
  k.pull (k.pull h hs) hs

/-- PLP and RTI take six flags from the pulled byte (46_stack_flags_system.md R253, R263). -/
theorem pullStatus (h : g w.st = c) (hs : writesSP i = true := by simp [writesSP, *])
    (hf : flagsWritten i.mnemonic = [.N, .V, .D, .I, .Z, .C] := by simp [flagsWritten, *]) :
    g w.pullStatus.st = c := by
  have hm : ∀ f ∈ [Flag.N, .V, .D, .I, .Z, .C], f ∈ flagsWritten i.mnemonic := fun f h => hf ▸ h
  rw [Work.pullStatus_eq_setFlags]
  exact k.updFlag .N _ (k.updFlag .V _ (k.updFlag .D _ (k.updFlag .I _ (k.updFlag .Z _ (k.updFlag .C _ (k.pull h hs)
    (hm _ (by simp))) (hm _ (by simp))) (hm _ (by simp))) (hm _ (by simp))) (hm _ (by simp))) (hm _ (by simp))

theorem addToA (q : Sum) (h : g w.st = c) (ha : writesA i = true := by simp [writesA, *])
    (hf : flagsWritten i.mnemonic = [.N, .V, .Z, .C] := by simp [flagsWritten, *]) :
    g (Machine.addToA q (decimalGuard w)).st = c :=
  k.updNZ _ (k.updFlag .V _ (k.updFlag .C _ (k.updA _ (by rw [decimalGuard_st, h]) ha) (by simp [hf])) (by simp [hf]))
    (by simp [hf]) (by simp [hf])

theorem branch (b : Bool) (h : g w.st = c) (hp : transfersControl i = true := by simp [transfersControl, *]) :
    g (Machine.branch b w).st = c := by
  cases b
  · exact h
  · exact k.updPC w.target h hp

/-- The result of a shift or rotate goes to A in Accumulator mode only (41_address_resolver.md R147). -/
theorem writeResult (v : Byte) (hw : w.mode = i.mode) (h : g w.st = c)
    (hs : i.mnemonic ∈ [.ASL, .LSR, .ROL, .ROR] := by simp [*]) : g (Machine.writeResult v w).st = c := by
  by_cases hm : w.mode = .acc
  · rw [writeResult_acc v hm]
    exact k.updA v h (by simp [writesA, hs, ← hw, hm])
  · rw [writeResult_mem v hm]
    exact k.write _ _ h (by simp [writesMemory, hs, ← hw, hm])

/-- A shift or rotate: the operand is read, the result is written back, C, Z and N follow (44_shift_rotate.md R210). -/
theorem shift (q : Carried) (hw : w.mode = i.mode) (h : g w.st = c)
    (hs : i.mnemonic ∈ [.ASL, .LSR, .ROL, .ROR] := by simp [*])
    (hf : flagsWritten i.mnemonic = [.N, .Z, .C] := by simp [flagsWritten, *]) :
    g (setCNZ q (Machine.writeResult q.r (Machine.readOperand w).2)).st = c :=
  k.updCNZ q (k.writeResult _ (by simp [hw]) (k.readOperand h) hs) (by simp [hf]) (by simp [hf]) (by simp [hf])

/-- The handler of an instruction changes nothing but what the instruction is listed as a writer of. -/
theorem handler (hw : w.mode = i.mode) (h : g w.st = c) : g (Machine.handler i.mnemonic w).st = c := by
  cases hm : i.mnemonic
  case LDA => exact k.updNZ _ (k.updA _ (k.readOperand h))
  case LDX => exact k.updNZ _ (k.updX _ (k.readOperand h))
  case LDY => exact k.updNZ _ (k.updY _ (k.readOperand h))
  case STA | STX | STY => exact k.write _ _ h
  case TAX | TSX | INX | DEX => exact k.updNZ _ (k.updX _ h)
  case TAY | INY | DEY => exact k.updNZ _ (k.updY _ h)
  case TXA | TYA => exact k.updNZ _ (k.updA _ h)
  case TXS => exact k.updSP (fun s => s.x) h
  case ADC | SBC => exact k.addToA _ (k.readOperand h)
  case AND | ORA | EOR => exact k.updNZ _ (k.updA _ (k.readOperand h))
  case BIT => exact k.updFlag .V _ (k.updFlag .N _ (k.updFlag .Z _ (k.read _ h)))
  case CMP | CPX | CPY => exact k.updCNZ _ (k.readOperand h)
  case INC | DEC => exact k.updNZ _ (k.write _ _ (k.read _ h))
  case ASL | LSR | ROL | ROR => exact k.shift _ hw h
  case BCC | BCS | BEQ | BNE | BMI | BPL | BVC | BVS => exact k.branch _ h
  case JMP => exact k.updPC _ h
  case JSR => exact k.updPC _ (k.push16 _ h)
  case RTS => exact k.updPC _ (k.pull16 h)
  case PHA | PHP => exact k.push _ h
  case PLA => exact k.updNZ _ (k.updA _ (k.pull h))
  case PLP => exact k.pullStatus h
  case CLC | SEC | CLI | SEI | CLD | SED | CLV => exact k.updFlag _ _ h
  case NOP => exact h
  case BRK => exact k.updPC _ (k.read16 _ (k.updFlag .I _ (k.push _ (k.push16 _ h))))
  case RTI => exact k.updPC _ (k.pull16 (k.pullStatus h))

/-- An instruction that completes leaves what it is no writer of as it was, but for PC, which the resolver moves past
the operand bytes (41_address_resolver.md R131). -/
theorem exec {s t : State} (h : Machine.exec i s = .next t) : g t = g (s.setPC (nextPC i s)) := by
  obtain ⟨-, -, rfl⟩ := exec_eq_next h
  obtain ⟨d, hd⟩ := resolve_st i.operand (start s)
  rw [k.setAddrBus]
  exact k.handler rfl (by rw [hd, k.setDataBus]; rfl)

end

end Frame

/-- No instruction changes the parameters (00_scope.md R6). -/
theorem exec_cfg {i : Instr} {s t : State} (h : exec i s = .next t) : t.cfg = s.cfg :=
  Frame.exec (i := i) (g := State.cfg) {} h

/-- After the fetch unit no instruction changes the opcode latch (10_state.md R35). -/
theorem exec_opcode {i : Instr} {s t : State} (h : exec i s = .next t) : t.opcode = s.opcode :=
  Frame.exec (i := i) (g := State.opcode) {} h

/-- The flags an instruction is not listed for are outside its frame (10_state.md R29). -/
theorem frame_flag {i : Instr} {f : Flag} (hf : f ∉ flagsWritten i.mnemonic) : Frame i (fun s => s.flag f) where
  setFlag e c s he := by
    have hne : f ≠ e := fun h => hf (h ▸ he)
    simp [hne, State.flag]

/-- Settles O19: the flags that the table does not list lie outside the instruction's frame. -/
theorem flagsNotListedAreUnchanged : Obligations.FlagsNotListedAreUnchanged :=
  fun _ _ _ _ h hf => (frame_flag hf).exec h

/-- Settles O21: each register is an observation that only its listed writers can change. -/
theorem registersChangeOnlyUnderTheirWriters : Obligations.RegistersChangeOnlyUnderTheirWriters := by
  intro i s t h
  refine ⟨fun hA => ?_, fun hX => ?_, fun hY => ?_, fun hSP => ?_, exec_opcode h, exec_cfg h⟩
  · exact Frame.exec (g := State.a) { setA := fun _ _ hw => by simp [hA] at hw } h
  · exact Frame.exec (g := State.x) { setX := fun _ _ hw => by simp [hX] at hw } h
  · exact Frame.exec (g := State.y) { setY := fun _ _ hw => by simp [hY] at hw } h
  · exact Frame.exec (g := State.sp) { setSP := fun _ _ hw => by simp [hSP] at hw } h

/-- Settles O22: the resolver moves PC past the operand bytes, and only a control transfer writes it after that. -/
theorem programCounterAdvancesPastTheInstruction : Obligations.ProgramCounterAdvancesPastTheInstruction :=
  fun _ _ _ h hT => Frame.exec (g := State.pc) { setPC := fun _ _ hw => by simp [hT] at hw } h

end Sys2Proof.Machine
end

section
/-! SUPPORT. The invariant: it holds at construction, every completed step keeps it, so every reachable state has it
(10_state.md R30, R31). And the canonical form of memory as a representation of the array (R38). -/

namespace Sys2Proof.Machine

/-- A canonical memory lists the bytes that are not 0x00, each at its address. -/
theorem Memory.mem_iff_read {m : Memory} (h : m.wf) (c : Host.Cell) :
    c ∈ m ↔ Memory.read m c.1 = c.2 ∧ c.2 ≠ 0#8 := by
  induction m with
  | nil => simpa using fun h => h.symm
  | cons d m ih =>
    obtain ⟨hp, hb⟩ := h
    obtain ⟨hd, hp⟩ := List.pairwise_cons.1 hp
    specialize ih ⟨hp, fun e he => hb e (List.mem_cons_of_mem _ he)⟩
    by_cases hc : d.1 = c.1
    · have hn : c ∉ m := fun hm => absurd (hd c hm) (by omega)
      have hv := (hb d (by simp)).2
      simp only [List.mem_cons, hn, or_false, Memory.read, hc, if_true]
      exact ⟨fun e => ⟨by rw [e], e ▸ hv⟩, fun e => Prod.ext hc.symm e.1.symm⟩
    · have hn : c ≠ d := fun e => hc (by rw [e])
      simp [Memory.read, hc, hn, ih]

/-- Strictly rising addresses: no cell is listed twice. -/
theorem Memory.nodup {m : Memory} (h : m.wf) : m.Nodup :=
  h.1.imp fun hlt he => absurd (congrArg Prod.fst he) (Nat.ne_of_lt hlt)

/-- Settles O17: both lists rise strictly and have the same members, the cells of the bytes that are not 0x00. -/
theorem equalMemoriesAreEqualData : Obligations.EqualMemoriesAreEqualData := by
  intro m n hm hn h
  have hmem : ∀ c : Host.Cell, c ∈ m ↔ c ∈ n := fun c => by
    by_cases hc : c.1 < 65536
    · have e := h (BitVec.ofNat 16 c.1)
      rw [BitVec.toNat_ofNat, Nat.mod_eq_of_lt hc] at e
      rw [Memory.mem_iff_read hm, Memory.mem_iff_read hn, e]
    · exact ⟨fun h => absurd (hm.2 c h).1 hc, fun h => absurd (hn.2 c h).1 hc⟩
  have hperm : List.Perm m n := (List.perm_ext_iff_of_nodup (Memory.nodup hm) (Memory.nodup hn)).2 hmem
  exact hperm.eq_of_pairwise (fun c d _ _ hcd hdc => absurd hcd (Nat.lt_asymm hdc)) hm.1 hn.1

/-- Settles O12. -/
theorem invariantHoldsAtReset : Obligations.InvariantHoldsAtReset :=
  { unused := rfl, noBreak := rfl, canonical := ⟨.nil, nofun⟩ }

/-- Canonical memory is kept by every change a handler makes. -/
theorem memory_wf_kept : Work.Kept (fun w => Memory.wf w.st.mem) where
  read _ _ h := h
  write b v _ h := State.store_wf b v h
  same _ _ e h := e.mem ▸ h

/-- Unused and Break are in no row of the flag table (10_state.md R29). -/
theorem unused_break_not_written (m : Mnemonic) : .U ∉ flagsWritten m ∧ .B ∉ flagsWritten m := by
  cases m <;> decide

/-- An instruction that completes keeps the invariant. -/
theorem State.Inv.exec {i : Instr} {s t : State} (hs : s.Inv) (h : exec i s = .next t) : t.Inv where
  unused := ((frame_flag (unused_break_not_written i.mnemonic).1).exec h).trans hs.unused
  noBreak := ((frame_flag (unused_break_not_written i.mnemonic).2).exec h).trans hs.noBreak
  canonical := by
    obtain ⟨-, -, rfl⟩ := exec_eq_next h
    obtain ⟨d, hd⟩ := resolve_st i.operand (start s)
    exact memory_wf_kept.handler i.mnemonic (by rw [hd]; exact hs.canonical)

/-! What the fetch unit does to the fields that later proofs ask for (47_fetch_decode_step.md R281). -/

@[simp] theorem fetchUnit_p (s : State) : (fetchUnit s).p = s.p := by simp [fetchUnit]
@[simp] theorem fetchUnit_mem (s : State) : (fetchUnit s).mem = s.mem := by simp [fetchUnit]
@[simp] theorem fetchUnit_cfg (s : State) : (fetchUnit s).cfg = s.cfg := by simp [fetchUnit]
@[simp] theorem fetchUnit_addrBus (s : State) : (fetchUnit s).addrBus = s.addrBus := by simp [fetchUnit]
@[simp] theorem fetchUnit_opcode (s : State) : (fetchUnit s).opcode = s.byteAt s.pc := by
  simp [fetchUnit, State.opcodeAtPC]
@[simp] theorem fetchUnit_dataBus (s : State) : (fetchUnit s).dataBus = s.byteAt s.pc := by
  simp [fetchUnit, State.opcodeAtPC]

/-- The fetch unit keeps the invariant: it changes PC and two latches. -/
theorem State.Inv.fetchUnit {s : State} (hs : s.Inv) : (fetchUnit s).Inv where
  unused := by simpa [State.flag] using hs.unused
  noBreak := by simpa [State.flag] using hs.noBreak
  canonical := by simpa using hs.canonical

/-- Settles O13: the fetch and the instruction each keep the invariant. -/
theorem invariantIsKeptByEveryStep : Obligations.InvariantIsKeptByEveryStep := by
  intro s t hs h
  obtain ⟨-, i, -, hi⟩ := step_eq_next h
  exact ⟨hs.fetchUnit.exec hi, (exec_cfg hi).trans (fetchUnit_cfg s)⟩

/-- A command of the host keeps the invariant. -/
theorem State.Inv.perform {s : State} (hs : s.Inv) (c : Command) : (c.perform s).Inv := by
  cases c with
  | reset => exact ⟨invariantHoldsAtReset.unused, invariantHoldsAtReset.noBreak, hs.canonical⟩
  | step =>
    cases h : Machine.step s with
    | next t => simpa [Command.perform, stepCommand, h] using (invariantIsKeptByEveryStep s t hs h).1
    | fault r => simpa [Command.perform, stepCommand, h] using hs
    | refused r => simpa [Command.perform, stepCommand, h] using hs
  | write b v => exact ⟨hs.unused, hs.noBreak, State.store_wf b v hs.canonical⟩

/-- Every reachable state has the invariant. -/
theorem Reachable.inv {s : State} (h : Reachable s) : s.Inv := by
  induction h with
  | construct c =>
    exact ⟨invariantHoldsAtReset.unused, invariantHoldsAtReset.noBreak, invariantHoldsAtReset.canonical⟩
  | perform c s _ ih => exact ih.perform c

/-- Settles O14, by the invariant of the reachable states and what the flag updater and a pull do to Unused. -/
theorem reachableStatesKeepUnusedSet : Obligations.ReachableStatesKeepUnusedSet := by
  refine ⟨fun s h => ⟨h.inv, h.inv.unused⟩, fun c p => rfl, fun v p => ?_⟩
  have h := getFlag_setPulledFlags .U v p
  simpa [getFlag, Flag.bit] using h

end Sys2Proof.Machine
end

section
/-! SUPPORT. The trace latches after a step (10_state.md R35). -/

namespace Sys2Proof.Machine

/-- The resolver keeps a property of working copies that operand fetches, reads and the delivery of outputs keep. -/
theorem resolve_keeps {P : Work → Prop} (fetch : ∀ v w, P w → P (w.fetchByte v))
    (read : ∀ b w, P w → P (w.read b).2)
    (out : ∀ {v w : Work}, P w → v.st = w.st → v.log = w.log → P v) (o : Operand) {w : Work} (h : P w) :
    P (resolve o w) := by
  have word : ∀ a, P (w.fetchWord a) := fun a => fetch _ _ (fetch _ _ h)
  cases o
  case imp | acc => exact out h rfl rfl
  case imm b | zp b | zpx b | zpy b | rel b => exact out (fetch b _ h) rfl rfl
  case abs a | absx a | absy a => exact out (word a) rfl rfl
  case ind a => exact out (read _ _ (read _ _ (word a))) rfl rfl
  case indx b | indy b => exact out (read _ _ (read _ _ (fetch b _ h))) rfl rfl

/-- The data latch holds the byte of the last access, `first` being the opcode read before those of the log. -/
def Work.OnDataBus (first : Access) (w : Work) : Prop :=
  ∃ x, (first :: w.log).getLast? = some x ∧ w.st.dataBus = x.byte

/-- An access that moves the byte it leaves on the latch. -/
theorem Work.OnDataBus.of_append {first x : Access} {w : Work} {l : List Access} (hl : w.log = l ++ [x])
    (hd : w.st.dataBus = x.byte) : w.OnDataBus first :=
  ⟨x, by rw [hl, ← List.cons_append, List.getLast?_concat], hd⟩

theorem Work.OnDataBus.kept (first : Access) : Work.Kept (Work.OnDataBus first) where
  read _ w _ := .of_append (w.read_log _) rfl
  write _ _ w _ := .of_append (w.write_log _ _) rfl
  same _ _ e h := by
    obtain ⟨x, hx, hb⟩ := h
    exact ⟨x, by rw [e.log, hx], by rw [e.dataBus, hb]⟩

/-- At the end of an instruction the data latch holds the byte of the last access. -/
theorem work_onDataBus {first : Access} {s : State} (i : Instr) (h : s.dataBus = first.byte) :
    (work i s).OnDataBus first := by
  refine (Work.OnDataBus.kept first).handler _ (resolve_keeps ?_ ?_ ?_ i.operand ⟨first, rfl, h⟩)
  · exact fun v w _ => .of_append (w.fetchByte_log v) rfl
  · exact (Work.OnDataBus.kept first).read
  · rintro v w ⟨x, hx, hb⟩ hs hl
    exact ⟨x, by rw [hl, hx], by rw [hs, hb]⟩

/-- The handlers keep the effective address and the address latch. -/
theorem ea_addrBus_kept (e : Option Word) (b : Word) : Work.Kept (fun w => w.ea = e ∧ w.st.addrBus = b) where
  read _ _ h := h
  write _ _ _ h := h
  same _ _ hs h := ⟨hs.ea.trans h.1, hs.addrBus.trans h.2⟩

/-- At the commit the effective address is the one the resolver delivered, the address latch still the old one. -/
theorem work_ea_addrBus (i : Instr) (s : State) :
    (work i s).ea = effectiveAddress i.operand s ∧ (work i s).st.addrBus = s.addrBus := by
  refine (ea_addrBus_kept _ _).handler _ ⟨rfl, ?_⟩
  obtain ⟨d, hd⟩ := resolve_st i.operand (start s)
  simp [hd]

/-- The modes that yield no effective address (41_address_resolver.md R133 to R135). -/
theorem effectiveAddress_eq_none_iff (i : Instr) (s : State) :
    effectiveAddress i.operand s = none ↔ i.mode ∈ [.imm, .acc, .imp] := by
  rw [← Option.not_isSome_iff_eq_none, effectiveAddress_isSome]
  simp only [Instr.mode, List.mem_cons, List.not_mem_nil, or_false]
  tauto

/-- Settles O11: the opcode latch lies outside every frame, the data latch follows the last access, and no handler
changes the effective address that the commit latches. -/
theorem latchesAfterAStep : Obligations.LatchesAfterAStep := by
  refine ⟨fun s t i hi h => ?_, fun s f h => ?_, fun s => ⟨rfl, rfl, rfl⟩⟩
  · obtain ⟨-, j, hj, ht⟩ := step_eq_next h
    obtain rfl : i = j := Option.some.inj (hi.symm.trans hj)
    have hop := exec_opcode ht
    obtain ⟨-, -, rfl⟩ := exec_eq_next ht
    obtain ⟨hea, hab⟩ := work_ea_addrBus i (fetchUnit s)
    refine ⟨hop.trans (fetchUnit_opcode s), ?_, ?_, effectiveAddress_eq_none_iff i _⟩
    · have hlast := work_onDataBus (first := .read s.pc s.opcodeAtPC) i (fetchUnit_dataBus s)
      simpa [stepAccesses, hi, Work.OnDataBus] using hlast
    · simp [hea, hab]
  · simp [stepCommand, h]

end Sys2Proof.Machine
end

section
/-! SUPPORT. A flag that no rule reads: two working copies that differ in one flag only, run side by side
(10_state.md R32, R33). -/

namespace Sys2Proof.Machine

/-- `v` is `w` but for P, and P differs at most in the flag `f`. -/
structure Work.DiffersIn (f : Flag) (v w : Work) : Prop where
  same : v.upd (State.setP w.st.p) = w
  flags : ∀ g, g ≠ f → v.st.flag g = w.st.flag g

/-! The resolver, the operand read and the branch do not see P. -/

theorem resolve_setP (o : Operand) (q : Byte) (w : Work) :
    resolve o (w.upd (State.setP q)) = (resolve o w).upd (State.setP q) := by
  cases o <;> rfl

theorem readOperand_setP (q : Byte) (w : Work) :
    readOperand (w.upd (State.setP q)) = ((readOperand w).1, (readOperand w).2.upd (State.setP q)) := by
  cases ho : w.operand with
  | some v => simp [readOperand, ho]
  | none =>
    by_cases hm : w.mode = .acc
    · simp [readOperand, ho, hm, State.setP]
    · simp only [readOperand, Work.upd_operand, ho, Work.upd_mode, hm, if_false]
      rfl

theorem writeResult_setP (v q : Byte) (w : Work) :
    writeResult v (w.upd (State.setP q)) = (writeResult v w).upd (State.setP q) := by
  by_cases hm : w.mode = .acc
  · rw [writeResult_acc v hm, writeResult_acc (w := w.upd (State.setP q)) v hm]
    rfl
  · rw [writeResult_mem v hm, writeResult_mem (w := w.upd (State.setP q)) v hm]
    rfl

theorem branch_setP (c : Bool) (q : Byte) (w : Work) :
    branch c (w.upd (State.setP q)) = (branch c w).upd (State.setP q) := by
  cases c <;> rfl

namespace Work.DiffersIn

variable {f : Flag} {v w : Work}

/-- Two such copies are one copy with two status bytes. -/
theorem exists_setP (h : v.DiffersIn f w) :
    ∃ q, v = w.upd (State.setP q) ∧ ∀ g, g ≠ f → getFlag g q = w.st.flag g :=
  ⟨v.st.p, by rw [← h.same]; rfl, h.flags⟩

/-- What does not see P is the same on both sides. -/
theorem congr {β : Type} (h : v.DiffersIn f w) (F : Work → β) (hF : ∀ q w, F (w.upd (State.setP q)) = F w) :
    F v = F w := by
  obtain ⟨q, rfl, -⟩ := h.exists_setP
  exact hF q w

/-- An operation that neither sees nor writes P keeps the difference. -/
theorem map (h : v.DiffersIn f w) (F : Work → Work)
    (hF : ∀ q w, F (w.upd (State.setP q)) = (F w).upd (State.setP q)) (hp : ∀ w, (F w).st.p = w.st.p) :
    (F v).DiffersIn f (F w) := by
  obtain ⟨q, rfl, hq⟩ := h.exists_setP
  rw [hF]
  exact ⟨rfl, fun g hg => by simpa [State.flag, hp] using hq g hg⟩

/-- The flag updater keeps the difference, or ends it. -/
theorem setFlag (h : v.DiffersIn f w) (e : Flag) (c : Bool) : (v.setFlag e c).DiffersIn f (w.setFlag e c) := by
  obtain ⟨q, rfl, hq⟩ := h.exists_setP
  refine ⟨rfl, fun g hg => ?_⟩
  have hg' : getFlag g q = getFlag g w.st.p := hq g hg
  simp [hg']

theorem setNZ (h : v.DiffersIn f w) (r : Byte) : (v.setNZ r).DiffersIn f (w.setNZ r) :=
  (h.setFlag .Z (r == 0#8)).setFlag .N (r.getLsbD 7)

theorem setCNZ (h : v.DiffersIn f w) (q : Carried) : (Machine.setCNZ q v).DiffersIn f (Machine.setCNZ q w) :=
  (h.setFlag .C q.cout).setNZ q.r

theorem a (h : v.DiffersIn f w) : v.st.a = w.st.a := h.congr (fun w => w.st.a) fun _ _ => rfl
theorem x (h : v.DiffersIn f w) : v.st.x = w.st.x := h.congr (fun w => w.st.x) fun _ _ => rfl
theorem y (h : v.DiffersIn f w) : v.st.y = w.st.y := h.congr (fun w => w.st.y) fun _ _ => rfl
theorem sp (h : v.DiffersIn f w) : v.st.sp = w.st.sp := h.congr (fun w => w.st.sp) fun _ _ => rfl
theorem pc (h : v.DiffersIn f w) : v.st.pc = w.st.pc := h.congr (fun w => w.st.pc) fun _ _ => rfl
theorem cfg (h : v.DiffersIn f w) : v.st.cfg = w.st.cfg := h.congr (fun w => w.st.cfg) fun _ _ => rfl
theorem target (h : v.DiffersIn f w) : v.target = w.target := h.congr Work.target fun _ _ => rfl

/-- The flags that rules read are others than I and D. -/
theorem tested_flag (h : v.DiffersIn f w) (hf : f = .I ∨ f = .D) {g : Flag} (hg : g ∈ [.C, .Z, .N, .V]) :
    v.st.flag g = w.st.flag g := by
  refine h.flags g ?_
  rintro rfl
  rcases hf with rfl | rfl <;> simp at hg

theorem updA (h : v.DiffersIn f w) (b : Byte) : (v.upd (State.setA b)).DiffersIn f (w.upd (State.setA b)) :=
  h.map _ (fun _ _ => rfl) fun _ => rfl
theorem updX (h : v.DiffersIn f w) (b : Byte) : (v.upd (State.setX b)).DiffersIn f (w.upd (State.setX b)) :=
  h.map _ (fun _ _ => rfl) fun _ => rfl
theorem updY (h : v.DiffersIn f w) (b : Byte) : (v.upd (State.setY b)).DiffersIn f (w.upd (State.setY b)) :=
  h.map _ (fun _ _ => rfl) fun _ => rfl
theorem updSP (h : v.DiffersIn f w) (b : Byte) : (v.upd (State.setSP b)).DiffersIn f (w.upd (State.setSP b)) :=
  h.map _ (fun _ _ => rfl) fun _ => rfl
theorem updPC (h : v.DiffersIn f w) (b : Word) : (v.upd (State.setPC b)).DiffersIn f (w.upd (State.setPC b)) :=
  h.map _ (fun _ _ => rfl) fun _ => rfl

theorem read (h : v.DiffersIn f w) (b : Word) :
    (v.read b).1 = (w.read b).1 ∧ (v.read b).2.DiffersIn f (w.read b).2 :=
  ⟨h.congr (fun w => (w.read b).1) fun _ _ => rfl, h.map (fun w => (w.read b).2) (fun _ _ => rfl) fun _ => rfl⟩

theorem write (h : v.DiffersIn f w) (b : Word) (d : Byte) : (v.write b d).DiffersIn f (w.write b d) :=
  h.map _ (fun _ _ => rfl) fun _ => rfl

theorem push (h : v.DiffersIn f w) (d : Byte) : (v.push d).DiffersIn f (w.push d) :=
  h.map _ (fun _ _ => rfl) fun _ => rfl

theorem push16 (h : v.DiffersIn f w) (d : Word) : (v.push16 d).DiffersIn f (w.push16 d) := (h.push _).push _

theorem pull (h : v.DiffersIn f w) : v.pull.1 = w.pull.1 ∧ v.pull.2.DiffersIn f w.pull.2 :=
  ⟨h.congr (fun w => w.pull.1) fun _ _ => rfl, h.map (fun w => w.pull.2) (fun _ _ => rfl) fun _ => rfl⟩

theorem pull16 (h : v.DiffersIn f w) : v.pull16.1 = w.pull16.1 ∧ v.pull16.2.DiffersIn f w.pull16.2 :=
  ⟨h.congr (fun w => w.pull16.1) fun _ _ => rfl, h.pull.2.pull.2⟩

theorem pullStatus (h : v.DiffersIn f w) : v.pullStatus.DiffersIn f w.pullStatus := by
  rw [Work.pullStatus_eq_setFlags, Work.pullStatus_eq_setFlags, h.pull.1]
  exact (((((h.pull.2.setFlag .C _).setFlag .Z _).setFlag .I _).setFlag .D _).setFlag .V _).setFlag .N _

theorem readOperand (h : v.DiffersIn f w) : (Machine.readOperand v).1 = (Machine.readOperand w).1 ∧
    (Machine.readOperand v).2.DiffersIn f (Machine.readOperand w).2 := by
  have hp : ∀ w, (Machine.readOperand w).2.st.p = w.st.p := fun w => by
    obtain ⟨d, hd⟩ := readOperand_st w
    rw [hd, State.setDataBus_p]
  exact ⟨h.congr (fun w => (Machine.readOperand w).1) fun q w => by rw [readOperand_setP],
    h.map (fun w => (Machine.readOperand w).2) (fun q w => by rw [readOperand_setP]) hp⟩

theorem writeResult (h : v.DiffersIn f w) (d : Byte) :
    (Machine.writeResult d v).DiffersIn f (Machine.writeResult d w) :=
  h.map _ (writeResult_setP d) (writeResult_p · d)

theorem branch (h : v.DiffersIn f w) (c : Bool) : (Machine.branch c v).DiffersIn f (Machine.branch c w) :=
  h.map _ (branch_setP c) fun w => by cases c <;> rfl

/-- The guard of ADC and SBC reads D under `refuse` only (43_arithmetic_logic.md R181). -/
theorem decimalGuard (h : v.DiffersIn f w) (hf : f ≠ .D ∨ w.st.cfg.decimalMode = .binaryOnly) :
    (Machine.decimalGuard v).DiffersIn f (Machine.decimalGuard w) := by
  have hc : (v.st.cfg.decimalMode = .refuse ∧ v.st.flag .D = true) ↔
      (w.st.cfg.decimalMode = .refuse ∧ w.st.flag .D = true) := by
    rcases hf with hf | hf
    · rw [h.cfg, h.flags .D hf.symm]
    · simp [h.cfg, hf]
  obtain ⟨q, rfl, hq⟩ := h.exists_setP
  unfold Machine.decimalGuard
  by_cases hw : w.st.cfg.decimalMode = .refuse ∧ w.st.flag .D = true
  · rw [if_pos (hc.2 hw), if_pos hw]
    exact ⟨rfl, hq⟩
  · rw [if_neg (mt hc.1 hw), if_neg hw]
    exact ⟨rfl, hq⟩

/-- The end of ADC and SBC. -/
theorem addToA (h : v.DiffersIn f w) (q : Sum) : (Machine.addToA q v).DiffersIn f (Machine.addToA q w) :=
  (((h.updA q.r).setFlag .C q.cout).setFlag .V q.vout).setNZ q.r

/-- Every handler but those of PHP and BRK keeps a difference in I, or in D with binary arithmetic. -/
theorem handler (h : v.DiffersIn f w) (hf : f = .I ∨ (f = .D ∧ w.st.cfg.decimalMode = .binaryOnly)) {m : Mnemonic}
    (hphp : m ≠ .PHP) (hbrk : m ≠ .BRK) : (Machine.handler m v).DiffersIn f (Machine.handler m w) := by
  have hID : f = .I ∨ f = .D := hf.imp_right And.left
  have hC := h.tested_flag hID (g := .C) (by simp)
  have hZ := h.tested_flag hID (g := .Z) (by simp)
  have hN := h.tested_flag hID (g := .N) (by simp)
  have hV := h.tested_flag hID (g := .V) (by simp)
  obtain ⟨hm, ho⟩ := h.readOperand
  have hoC := ho.tested_flag hID (g := .C) (by simp)
  have hoD : f ≠ .D ∨ (Machine.readOperand w).2.st.cfg.decimalMode = .binaryOnly := by
    obtain ⟨d, hd⟩ := readOperand_st w
    rw [hd, State.setDataBus_cfg]
    exact hf.imp (fun e => by rw [e]; decide) And.right
  obtain ⟨hb, hr⟩ := h.read w.target
  cases m
  case LDA => simp only [Machine.handler, doLda, hm]; exact (ho.updA _).setNZ _
  case LDX => simp only [Machine.handler, doLdx, hm]; exact (ho.updX _).setNZ _
  case LDY => simp only [Machine.handler, doLdy, hm]; exact (ho.updY _).setNZ _
  case STA => simp only [Machine.handler, doSta, h.target, h.a]; exact h.write _ _
  case STX => simp only [Machine.handler, doStx, h.target, h.x]; exact h.write _ _
  case STY => simp only [Machine.handler, doSty, h.target, h.y]; exact h.write _ _
  case TAX => simp only [Machine.handler, doTax, h.a]; exact (h.updX _).setNZ _
  case TAY => simp only [Machine.handler, doTay, h.a]; exact (h.updY _).setNZ _
  case TXA => simp only [Machine.handler, doTxa, h.x]; exact (h.updA _).setNZ _
  case TYA => simp only [Machine.handler, doTya, h.y]; exact (h.updA _).setNZ _
  case TSX => simp only [Machine.handler, doTsx, h.sp]; exact (h.updX _).setNZ _
  case TXS => simp only [Machine.handler, doTxs, h.x]; exact h.updSP _
  case ADC | SBC =>
    simp only [Machine.handler, doAdc, doSbc, hm, ho.a, hoC]
    exact (ho.decimalGuard hoD).addToA _
  case AND | ORA | EOR =>
    simp only [Machine.handler, doAnd, doOra, doEor, hm, ho.a]
    exact (ho.updA _).setNZ _
  case BIT =>
    simp only [Machine.handler, doBit, h.target, hb, hr.a]
    exact ((hr.setFlag .Z _).setFlag .N _).setFlag .V _
  case CMP | CPX | CPY =>
    simp only [Machine.handler, doCmp, doCpx, doCpy, hm, ho.a, ho.x, ho.y]
    exact ho.setCNZ _
  case INC | DEC =>
    simp only [Machine.handler, doInc, doDec, h.target, hb]
    exact (hr.write _ _).setNZ _
  case INX | DEX => simp only [Machine.handler, doInx, doDex, h.x]; exact (h.updX _).setNZ _
  case INY | DEY => simp only [Machine.handler, doIny, doDey, h.y]; exact (h.updY _).setNZ _
  case ASL | LSR | ROL | ROR =>
    simp only [Machine.handler, doAsl, doLsr, doRol, doRor, hm, hoC]
    exact (ho.writeResult _).setCNZ _
  case BCC | BCS | BEQ | BNE | BMI | BPL | BVC | BVS =>
    simp only [Machine.handler, doBcc, doBcs, doBeq, doBne, doBmi, doBpl, doBvc, doBvs, hC, hZ, hN, hV]
    exact h.branch _
  case JMP => simp only [Machine.handler, doJmp, h.target]; exact h.updPC _
  case JSR => simp only [Machine.handler, doJsr, h.target, h.pc]; exact (h.push16 _).updPC _
  case RTS => simp only [Machine.handler, doRts, h.pull16.1]; exact h.pull16.2.updPC _
  case PHA => simp only [Machine.handler, doPha, h.a]; exact h.push _
  case PHP => exact absurd rfl hphp
  case PLA => simp only [Machine.handler, doPla, h.pull.1]; exact (h.pull.2.updA _).setNZ _
  case PLP => exact h.pullStatus
  case CLC | SEC | CLI | SEI | CLD | SED | CLV => exact h.setFlag _ _
  case NOP => exact h
  case BRK => exact absurd rfl hbrk
  case RTI =>
    simp only [Machine.handler, doRti, Work.returnFromTrap, h.pullStatus.pull16.1]
    exact h.pullStatus.pull16.2.updPC _

end Work.DiffersIn

/-- Settles O20: run from both states, the instruction makes the same accesses and ends in states that differ in that
flag only. -/
theorem interruptDisableAndDecimalArePlainStorage : Obligations.InterruptDisableAndDecimalArePlainStorage := by
  intro i s t f c hphp hbrk hf h
  obtain ⟨hr, hl, rfl⟩ := exec_eq_next h
  have hstart : (start (s.setP (setFlag f c s.p))).DiffersIn f (start s) :=
    ⟨rfl, fun g hg => by simp [hg, State.flag]⟩
  have hwork : (work i (s.setP (setFlag f c s.p))).DiffersIn f (work i s) := by
    obtain ⟨d, hd⟩ := resolve_st i.operand (start s)
    have hp : ∀ w, (resolve i.operand w).st.p = w.st.p := fun w => by
      obtain ⟨d, hd⟩ := resolve_st i.operand w
      simp [hd]
    exact (hstart.map _ (resolve_setP i.operand) hp).handler (by simpa [hd] using hf) hphp hbrk
  obtain ⟨q, hv, hq⟩ := hwork.exists_setP
  refine ⟨((work i s).st.setP q).setAddrBus ((work i s).ea.getD (work i s).st.addrBus), ?_, rfl, hq⟩
  rw [exec_eq_commit, hv]
  exact commit_next hr hl

end Sys2Proof.Machine
end

section
/-! SUPPORT. Loading a program (20_memory.md R66): a load is one store after another at increasing addresses, so what is
known of one store carries over by induction on the bytes. -/

namespace Sys2Proof.Machine

/-- The byte at offset `n` from the second byte of a load is the one at offset `n + 1` from the first. -/
theorem add_one_add_ofNat (addr : Word) (n : Nat) :
    addr + 1 + BitVec.ofNat 16 n = addr + BitVec.ofNat 16 (n + 1) := by
  rw [BitVec.add_assoc, Nat.add_comm, BitVec.ofNat_add]
  rfl

/-- Fewer than 65536 increments do not come back to the address they start from. -/
theorem ne_add_ofNat_succ (addr : Word) {n : Nat} (h : n + 1 < 65536) : addr ≠ addr + BitVec.ofNat 16 (n + 1) := by
  intro e
  have e' := congrArg BitVec.toNat e
  rw [BitVec.toNat_add, BitVec.toNat_ofNat] at e'
  omega

/-- An address that none of the loaded bytes goes to reads as before, in any memory. -/
theorem load_byteAt_ne (bytes : List Byte) (addr : Word) (s : State) {c : Word}
    (h : ∀ n < bytes.length, c ≠ addr + BitVec.ofNat 16 n) : (load addr bytes s).byteAt c = s.byteAt c := by
  induction bytes generalizing addr s with
  | nil => rfl
  | cons b rest ih =>
    have hfirst : c ≠ addr := by simpa using h 0 (by simp)
    have hrest : ∀ n < rest.length, c ≠ addr + 1 + BitVec.ofNat 16 n := fun n hn => by
      rw [add_one_add_ofNat]
      exact h (n + 1) (by simpa using hn)
    exact (ih (addr + 1) _ hrest).trans (s.store_byteAt_ne b hfirst)

/-- Each loaded byte reads back: no later byte of the load reaches its address again. -/
theorem load_byteAt_getElem {bytes : List Byte} {addr : Word} {s : State} (hw : Memory.wf s.mem)
    (hlen : bytes.length ≤ 65536) {n : Nat} {b : Byte} (hb : bytes[n]? = some b) :
    (load addr bytes s).byteAt (addr + BitVec.ofNat 16 n) = b := by
  induction bytes generalizing addr s n with
  | nil => simp at hb
  | cons d rest ih =>
    rw [List.length_cons] at hlen
    cases n with
    | zero =>
      obtain rfl : d = b := by simpa using hb
      have hne : ∀ k < rest.length, addr ≠ addr + 1 + BitVec.ofNat 16 k := fun k hk => by
        rw [add_one_add_ofNat]
        exact ne_add_ofNat_succ addr (by omega)
      have hstored : (hostWrite addr d s).byteAt addr = d := by simp [hostWrite, State.store_byteAt _ _ _ hw]
      rw [show addr + BitVec.ofNat 16 0 = addr by simp]
      exact (load_byteAt_ne rest (addr + 1) _ hne).trans hstored
    | succ k =>
      rw [← add_one_add_ofNat]
      exact ih (State.store_wf addr d hw) (by omega) (by simpa using hb)

/-- A load keeps the canonical form. -/
theorem load_wf (bytes : List Byte) (addr : Word) {s : State} (h : Memory.wf s.mem) :
    Memory.wf (load addr bytes s).mem := by
  induction bytes generalizing addr s with
  | nil => exact h
  | cons b rest ih => exact ih (addr + 1) (State.store_wf addr b h)

/-- A load changes nothing but memory. -/
theorem load_setMem (bytes : List Byte) (addr : Word) (s : State) (m : Memory) :
    (load addr bytes s).setMem m = s.setMem m := by
  induction bytes generalizing addr s with
  | nil => rfl
  | cons b rest ih => exact ih (addr + 1) (hostWrite addr b s)

/-- Settles O16, by induction on the bytes loaded: read-back, frame, canonical form, registers. -/
theorem loadedProgramReadsBack : Obligations.LoadedProgramReadsBack := by
  intro bytes addr s hw hlen
  exact ⟨fun _ _ => load_byteAt_getElem hw hlen, fun _ => load_byteAt_ne bytes addr s, load_wf bytes addr hw,
    load_setMem bytes addr s s.mem⟩

end Sys2Proof.Machine
end

section
/-! SUPPORT. The access log accounts for memory (20_memory.md R57, R61): every operation on the working copy logs the
accesses it makes, so replaying the log on the memory at the beginning gives the memory of the working copy. -/

namespace Sys2Proof.Machine

/-- Replays one after the other. -/
theorem Replays.append {l l' : List Access} {m k n : Memory} (h : Replays m l k) (h' : Replays k l' n) :
    Replays m (l ++ l') n := by
  induction l generalizing m with
  | nil => exact (show k = m from h) ▸ h'
  | cons x l ih =>
    cases x with
    | read a v => exact ⟨h.1, ih h.2⟩
    | write a v => exact ih h

/-- The log of the working copy, replayed on `m`, gives its memory. -/
def Work.Replayed (m : Memory) (w : Work) : Prop := Replays m w.log w.st.mem

/-- A logged read of the byte that memory holds. -/
theorem Work.Replayed.of_read {m : Memory} {v w : Work} {b : Word} (h : w.Replayed m) (hmem : v.st.mem = w.st.mem)
    (hlog : v.log = w.log ++ [.read b (w.st.byteAt b)]) : v.Replayed m := by
  unfold Work.Replayed
  rw [hlog, hmem]
  exact h.append ⟨rfl, rfl⟩

/-- Every handler logs what it does to memory. -/
theorem Work.Replayed.kept (m : Memory) : Work.Kept (Work.Replayed m) where
  read _ _ h := h.of_read rfl rfl
  write _ _ _ h := Replays.append h rfl
  same _ _ e h := by
    unfold Work.Replayed
    rw [e.log, e.mem]
    exact h

/-- An operand byte that stands in memory at PC counts as a read of it. -/
theorem Work.Replayed.fetchByte {m : Memory} {w : Work} {v : Byte} (h : w.Replayed m)
    (hv : w.st.byteAt w.st.pc = v) : (w.fetchByte v).Replayed m :=
  h.of_read rfl (by rw [Work.fetchByte_log, hv])

/-- The resolver reads memory only, if the operand bytes stand in memory from PC on (41_address_resolver.md R148). -/
theorem Work.Replayed.resolve {m : Memory} {w : Work} (o : Operand) (h : w.Replayed m)
    (h0 : ∀ b, o.bytes[0]? = some b → w.st.byteAt w.st.pc = b)
    (h1 : ∀ b, o.bytes[1]? = some b → w.st.byteAt (w.st.pc + 1) = b) : (Machine.resolve o w).Replayed m := by
  have read := (Work.Replayed.kept m).read
  cases o
  case imp | acc => exact h
  case imm b | zp b | zpx b | zpy b | rel b => exact h.fetchByte (h0 b rfl)
  case abs a | absx a | absy a => exact (h.fetchByte (h0 (lo a) rfl)).fetchByte (h1 (hi a) rfl)
  case ind a => exact read _ _ (read _ _ ((h.fetchByte (h0 (lo a) rfl)).fetchByte (h1 (hi a) rfl)))
  case indx b | indy b => exact read _ _ (read _ _ (h.fetchByte (h0 b rfl)))

/-- The instruction that stands at PC logs what it does to memory. -/
theorem work_replayed {s : State} {i : Instr} (h : decodeAt s = some i) : (work i (fetchUnit s)).Replayed s.mem := by
  obtain ⟨-, h0, h1⟩ := decodeAt_bytes h
  have hstart : (start (fetchUnit s)).Replayed s.mem := rfl
  refine (Work.Replayed.kept s.mem).handler _ (hstart.resolve i.operand h0 fun b hb => ?_)
  have hpc : (fetchUnit s).pc + 1 = s.pc + 2 := BitVec.add_assoc s.pc 1 1
  exact (congrArg s.byteAt hpc).trans (h1 b hb)

/-- Settles O10: the opcode read moves the byte at PC, and the rest of the log replays to the memory committed. -/
theorem stepAccessesReplayOnMemory : Obligations.StepAccessesReplayOnMemory := by
  intro s t h
  obtain ⟨-, i, hi, ht⟩ := step_eq_next h
  obtain ⟨-, -, rfl⟩ := exec_eq_next ht
  refine ⟨?_, rfl⟩
  simp only [stepAccesses, hi]
  exact ⟨rfl, work_replayed hi⟩

end Sys2Proof.Machine
end

section
/-! SUPPORT. Where an instruction stores (20_memory.md R67): a handler changes no byte of memory but those at its
effective address or at the stack cells it pushes to. -/

namespace Sys2Proof.Machine

/-- The resolver leaves memory as it was (41_address_resolver.md R148). -/
theorem resolve_start_byteAt (o : Operand) (s : State) (b : Word) : (resolve o (start s)).st.byteAt b = s.byteAt b := by
  obtain ⟨d, hd⟩ := resolve_st o (start s)
  simp [hd]

/-- The resolver leaves SP as it was (41_address_resolver.md R148). -/
theorem resolve_start_sp (o : Operand) (s : State) : (resolve o (start s)).st.sp = s.sp := by
  obtain ⟨d, hd⟩ := resolve_st o (start s)
  simp [hd]

/-- A byte that the handler leaves alone, whatever working copy it finds with the resolver's outputs, is a byte that the
instruction leaves alone. -/
theorem exec_byteAt {i : Instr} {s t : State} {b : Word} (h : exec i s = .next t)
    (hb : (handler i.mnemonic (resolve i.operand (start s))).st.byteAt b =
      (resolve i.operand (start s)).st.byteAt b) : t.byteAt b = s.byteAt b := by
  obtain ⟨-, -, rfl⟩ := exec_eq_next h
  exact hb.trans (resolve_start_byteAt i.operand s b)

/-- `WriteResult(v)` stores at the effective address at most (41_address_resolver.md R147). -/
theorem writeResult_byteAt_ne (v : Byte) (w : Work) {b : Word} (h : b ≠ w.target) :
    (writeResult v w).st.byteAt b = w.st.byteAt b := by
  by_cases hm : w.mode = .acc
  · rw [writeResult_acc v hm]
    rfl
  · rw [writeResult_mem v hm]
    exact w.st.store_byteAt_ne v h

/-- A shift or rotate stores its result at the effective address at most (44_shift_rotate.md R210). -/
theorem shift_byteAt_ne (q : Carried) (w : Work) {b : Word} (h : b ≠ w.target) :
    (setCNZ q (writeResult q.r (readOperand w).2)).st.byteAt b = w.st.byteAt b := by
  obtain ⟨d, hd⟩ := readOperand_st w
  have ht : (readOperand w).2.target = w.target := by simp [Work.target]
  rw [setCNZ_st, State.setP_byteAt, writeResult_byteAt_ne _ _ (ht ▸ h), hd, State.setDataBus_byteAt]

/-- The write-class and read-modify-write handlers store at the effective address only. -/
theorem handler_byteAt_ne_target {m : Mnemonic} (hm : m ∈ [.STA, .STX, .STY, .INC, .DEC, .ASL, .LSR, .ROL, .ROR])
    (w : Work) {b : Word} (h : b ≠ w.target) : (handler m w).st.byteAt b = w.st.byteAt b := by
  cases m
  case STA | STX | STY => exact w.st.store_byteAt_ne _ h
  case INC | DEC => exact (w.read w.target).2.st.store_byteAt_ne _ h
  case ASL | LSR | ROL | ROR => exact shift_byteAt_ne _ w h
  all_goals simp at hm

/-- PHA and PHP store at the stack cell only. -/
theorem handler_byteAt_ne_push {m : Mnemonic} (hm : m ∈ [.PHA, .PHP]) (w : Work) {b : Word}
    (h : b ≠ stackAddr w.st.sp) : (handler m w).st.byteAt b = w.st.byteAt b := by
  cases m
  case PHA | PHP => exact w.st.store_byteAt_ne _ h
  all_goals simp at hm

/-- JSR stores at two stack cells only (45_control_flow.md R230). -/
theorem handler_JSR_byteAt_ne (w : Work) {b : Word} (h0 : b ≠ stackAddr w.st.sp)
    (h1 : b ≠ stackAddr (w.st.sp - 1)) : (handler .JSR w).st.byteAt b = w.st.byteAt b := by
  rw [handler, doJsr, Work.upd_st, State.setPC_byteAt, Work.push16_st, State.setSP_byteAt, State.setDataBus_byteAt,
    State.store_byteAt_ne _ _ h1, State.store_byteAt_ne _ _ h0]

/-- BRK stores at three stack cells only (60_exceptions.md R319). -/
theorem handler_BRK_byteAt_ne (w : Work) {b : Word} (h0 : b ≠ stackAddr w.st.sp) (h1 : b ≠ stackAddr (w.st.sp - 1))
    (h2 : b ≠ stackAddr (w.st.sp - 2)) : (handler .BRK w).st.byteAt b = w.st.byteAt b := by
  obtain ⟨d, hd⟩ := w.takeTrap_st (w.st.pc + 1)
  rw [handler, doBrk, hd, State.setPC_byteAt, State.setDataBus_byteAt, State.setP_byteAt, State.setSP_byteAt, trapFrame,
    State.store_byteAt_ne _ _ h2, State.store_byteAt_ne _ _ h1, State.store_byteAt_ne _ _ h0]

/-- Settles O23: outside the instructions that write memory, memory lies outside the frame; each of the others stores at
its own addresses only. -/
theorem memoryChangesOnlyWhereStored : Obligations.MemoryChangesOnlyWhereStored := by
  intro i s t h
  have hsp := resolve_start_sp i.operand s
  refine ⟨fun hm b => ?_, fun hm ea hea b hb => ?_, fun hm b h0 => ?_, fun hm b h0 h1 => ?_, fun hm b h0 h1 h2 => ?_⟩
  · exact State.byteAt_congr (Frame.exec (g := State.mem) { store := fun _ _ _ hw => by simp [hm] at hw } h) b
  · have htarget : (resolve i.operand (start s)).target = ea := congrArg (Option.getD · 0x0000) hea
    rw [← htarget] at hb
    exact exec_byteAt h (handler_byteAt_ne_target hm _ hb)
  · rw [← hsp] at h0
    exact exec_byteAt h (handler_byteAt_ne_push hm _ h0)
  · rw [← hsp] at h0 h1
    exact exec_byteAt h (by rw [hm]; exact handler_JSR_byteAt_ne _ h0 h1)
  · rw [← hsp] at h0 h1 h2
    exact exec_byteAt h (by rw [hm]; exact handler_BRK_byteAt_ne _ h0 h1 h2)

end Sys2Proof.Machine
end

section
/-! SUPPORT. The round trip of decoder and encoder (30_encoding.md R80, R86 to R88): what the decoder answers is said by
the table, whose every row fits the encoder (`TableEntry`, `rows_sound`); which bytes have a row is checked on the two
lists of bytes as sets. -/

namespace Sys2Proof.Laws

/-! ## Decoding through the table -/

/-- A byte with a table entry is decoded by the form of its row. -/
theorem decode_of_lookup_some {profile : TableProfile} {op : Byte} {r : Row} (h : lookup profile op = some r)
    (rest : List Byte) : decode profile (op :: rest) = r.form.take rest := by
  simp only [decode, h]

/-- A byte without a table entry is rejected by name, whatever follows (30_encoding.md R90). -/
theorem decode_of_lookup_none {profile : TableProfile} {op : Byte} (h : lookup profile op = none)
    (rest : List Byte) : decode profile (op :: rest) = .unmapped op := by
  simp only [decode, h]

/-- With `source_shown` a shown byte has the row of the full table. -/
theorem lookup_sourceShown_of_mem {op : Byte} (h : op ∈ shownOpcodes) : lookup .sourceShown op = findRow op :=
  if_pos h

/-- With `source_shown` any other byte has no row. -/
theorem lookup_sourceShown_of_not_mem {op : Byte} (h : op ∉ shownOpcodes) : lookup .sourceShown op = none :=
  if_neg h

/-- The five shown opcodes are those of the five shown instructions (30_encoding.md R85). -/
theorem opcode_mem_shownOpcodes (i : Instr) : i.opcode ∈ shownOpcodes ↔ i.sourceShown = true := by
  have h : decide (i.opcode ∈ shownOpcodes) = i.sourceShown := by cases i <;> rfl
  rw [← h, decide_eq_true_iff]

/-- The opcode of an instruction of the profile has the row of the full table. -/
theorem lookup_opcode {profile : TableProfile} {i : Instr} (h : i.wellFormed profile = true) :
    lookup profile i.opcode = findRow i.opcode := by
  cases profile with
  | full => rfl
  | sourceShown => exact lookup_sourceShown_of_mem ((opcode_mem_shownOpcodes i).2 h)

namespace TableEntry

/-- The lemmas of the family together: every instruction has its entry in the table. -/
theorem all : ∀ i : Instr, Statement i
  | .ldaImm v => ldaImm v | .ldaZp b => ldaZp b | .ldaZpx b => ldaZpx b | .ldaAbs a => ldaAbs a
  | .ldaAbsx a => ldaAbsx a | .ldaAbsy a => ldaAbsy a | .ldaIndx b => ldaIndx b | .ldaIndy b => ldaIndy b
  | .ldxImm v => ldxImm v | .ldxZp b => ldxZp b | .ldxZpy b => ldxZpy b | .ldxAbs a => ldxAbs a
  | .ldxAbsy a => ldxAbsy a | .ldyImm v => ldyImm v | .ldyZp b => ldyZp b | .ldyZpx b => ldyZpx b
  | .ldyAbs a => ldyAbs a | .ldyAbsx a => ldyAbsx a | .staZp b => staZp b | .staZpx b => staZpx b
  | .staAbs a => staAbs a | .staAbsx a => staAbsx a | .staAbsy a => staAbsy a | .staIndx b => staIndx b
  | .staIndy b => staIndy b | .stxZp b => stxZp b | .stxZpy b => stxZpy b | .stxAbs a => stxAbs a
  | .styZp b => styZp b | .styZpx b => styZpx b | .styAbs a => styAbs a | .tax => tax | .tay => tay | .txa => txa
  | .tya => tya | .tsx => tsx | .txs => txs | .adcImm v => adcImm v | .adcZp b => adcZp b | .adcZpx b => adcZpx b
  | .adcAbs a => adcAbs a | .adcAbsx a => adcAbsx a | .adcAbsy a => adcAbsy a | .adcIndx b => adcIndx b
  | .adcIndy b => adcIndy b | .sbcImm v => sbcImm v | .sbcZp b => sbcZp b | .sbcZpx b => sbcZpx b
  | .sbcAbs a => sbcAbs a | .sbcAbsx a => sbcAbsx a | .sbcAbsy a => sbcAbsy a | .sbcIndx b => sbcIndx b
  | .sbcIndy b => sbcIndy b | .andImm v => andImm v | .andZp b => andZp b | .andZpx b => andZpx b
  | .andAbs a => andAbs a | .andAbsx a => andAbsx a | .andAbsy a => andAbsy a | .andIndx b => andIndx b
  | .andIndy b => andIndy b | .oraImm v => oraImm v | .oraZp b => oraZp b | .oraZpx b => oraZpx b
  | .oraAbs a => oraAbs a | .oraAbsx a => oraAbsx a | .oraAbsy a => oraAbsy a | .oraIndx b => oraIndx b
  | .oraIndy b => oraIndy b | .eorImm v => eorImm v | .eorZp b => eorZp b | .eorZpx b => eorZpx b
  | .eorAbs a => eorAbs a | .eorAbsx a => eorAbsx a | .eorAbsy a => eorAbsy a | .eorIndx b => eorIndx b
  | .eorIndy b => eorIndy b | .bitZp b => bitZp b | .bitAbs a => bitAbs a | .cmpImm v => cmpImm v
  | .cmpZp b => cmpZp b | .cmpZpx b => cmpZpx b | .cmpAbs a => cmpAbs a | .cmpAbsx a => cmpAbsx a
  | .cmpAbsy a => cmpAbsy a | .cmpIndx b => cmpIndx b | .cmpIndy b => cmpIndy b | .cpxImm v => cpxImm v
  | .cpxZp b => cpxZp b | .cpxAbs a => cpxAbs a | .cpyImm v => cpyImm v | .cpyZp b => cpyZp b | .cpyAbs a => cpyAbs a
  | .incZp b => incZp b | .incZpx b => incZpx b | .incAbs a => incAbs a | .incAbsx a => incAbsx a
  | .decZp b => decZp b | .decZpx b => decZpx b | .decAbs a => decAbs a | .decAbsx a => decAbsx a | .inx => inx
  | .iny => iny | .dex => dex | .dey => dey | .aslAcc => aslAcc | .aslZp b => aslZp b | .aslZpx b => aslZpx b
  | .aslAbs a => aslAbs a | .aslAbsx a => aslAbsx a | .lsrAcc => lsrAcc | .lsrZp b => lsrZp b | .lsrZpx b => lsrZpx b
  | .lsrAbs a => lsrAbs a | .lsrAbsx a => lsrAbsx a | .rolAcc => rolAcc | .rolZp b => rolZp b | .rolZpx b => rolZpx b
  | .rolAbs a => rolAbs a | .rolAbsx a => rolAbsx a | .rorAcc => rorAcc | .rorZp b => rorZp b | .rorZpx b => rorZpx b
  | .rorAbs a => rorAbs a | .rorAbsx a => rorAbsx a | .bcc d => bcc d | .bcs d => bcs d | .beq d => beq d
  | .bne d => bne d | .bmi d => bmi d | .bpl d => bpl d | .bvc d => bvc d | .bvs d => bvs d | .jmpAbs a => jmpAbs a
  | .jmpInd a => jmpInd a | .jsr a => jsr a | .rts => rts | .pha => pha | .php => php | .pla => pla | .plp => plp
  | .clc => clc | .sec => sec | .cli => cli | .sei => sei | .cld => cld | .sed => sed | .clv => clv | .nop => nop
  | .brk => brk | .rti => rti

end TableEntry

/-- A form that answers an instruction was filled in with the operand bytes the list begins with. -/
theorem take_eq_instr {f : Form} {bs rest : List Byte} {i : Instr} (h : f.take bs = .instr i rest) :
    ∃ b c, f.fill b c = i ∧ bs = formBytes b c f ++ rest := by
  cases f with
  | f1 j =>
    cases h
    exact ⟨0, 0, rfl, rfl⟩
  | f2 make =>
    match bs, h with
    | b :: _, rfl => exact ⟨b, 0, rfl, rfl⟩
  | f3 make =>
    match bs, h with
    | b :: c :: _, rfl => exact ⟨b, c, rfl, by simp [formBytes]⟩

/-- Settles O1: the instruction's opcode leads to its own row, whose form takes the operand bytes back. -/
theorem decodeOfEncodeIsTheInstruction : Obligations.DecodeOfEncodeIsTheInstruction := by
  intro profile i rest hi
  obtain ⟨r, hr, -, htake⟩ := TableEntry.all i
  exact (decode_of_lookup_some ((lookup_opcode hi).trans hr) _).trans (htake rest)

/-- Settles O2: what decoded was filled in by a row of the table, and every row is sound against the encoder. -/
theorem encodeOfDecodeIsTheBytes : Obligations.EncodeOfDecodeIsTheBytes := by
  intro profile bs i rest h
  cases bs with
  | nil => cases h
  | cons op tail =>
    cases hr : lookup profile op with
    | none => cases (decode_of_lookup_none hr tail).symm.trans h
    | some r =>
      obtain ⟨b, c, rfl, rfl⟩ := take_eq_instr ((decode_of_lookup_some hr tail).symm.trans h)
      obtain ⟨-, hmem, rfl, hshown⟩ := lookup_eq_some hr
      have henc := (rows_sound r hmem b c).1
      have hop : (r.form.fill b c).opcode = r.opcode := (List.cons.inj henc).1
      refine ⟨?_, by rw [henc]; rfl⟩
      cases profile with
      | full => rfl
      | sourceShown => exact (opcode_mem_shownOpcodes _).1 (hop ▸ hshown rfl)

/-! ## Which bytes are mapped -/

/-- A list of bytes as a set of 256 bits: bit `b` stands for the byte `b`. Two lists of bytes are then compared by one
computation on numbers. -/
def byteSet : List Byte → Nat
  | [] => 0
  | b :: l => 2 ^ b.toNat ||| byteSet l

/-- The bits of the set are the members of the list. -/
theorem testBit_byteSet (op : Byte) (l : List Byte) : (byteSet l).testBit op.toNat = decide (op ∈ l) := by
  induction l with
  | nil => simp [byteSet]
  | cons b l ih => simp [byteSet, ih, Nat.testBit_two_pow, BitVec.toNat_inj, eq_comm]

theorem byteSet_append (l m : List Byte) : byteSet (l ++ m) = byteSet l ||| byteSet m := by
  induction l with
  | nil => simp [byteSet]
  | cons b l ih => simp [byteSet, ih, Nat.or_assoc]

/-- Each of the 256 bytes is in one, and in one only, of the table (30_encoding.md R86) and the list of R90. -/
theorem byteSet_rows_xor_unmapped :
    byteSet (OpcodeTable.rows.map Row.opcode) ^^^ byteSet Machine.unmappedBytes = 2 ^ 256 - 1 := by
  simp only [OpcodeTable.rows, List.map_append, byteSet_append]
  decide

/-- With every row mapped, a byte has a row exactly when it is not in the list of 30_encoding.md R90. -/
theorem findRow_isSome_iff (op : Byte) : (findRow op).isSome = true ↔ op ∉ Machine.unmappedBytes := by
  have hrow : (findRow op).isSome = true ↔ op ∈ OpcodeTable.rows.map Row.opcode := by simp [findRow]
  have hxor : (decide (op ∈ OpcodeTable.rows.map Row.opcode) ^^ decide (op ∈ Machine.unmappedBytes)) = true := by
    rw [← testBit_byteSet, ← testBit_byteSet, ← Nat.testBit_xor, byteSet_rows_xor_unmapped,
      Nat.testBit_two_pow_sub_one, decide_eq_true op.isLt]
  rw [hrow]
  by_cases h : op ∈ Machine.unmappedBytes <;> simpa [h] using hxor

/-- 30_encoding.md R88 lists the five shown bytes in another order than the model. -/
theorem mem_shownOpcodes (op : Byte) : op ∈ ([0xA9, 0xA5, 0xB5, 0xAD, 0xA1] : List Byte) ↔ op ∈ shownOpcodes :=
  List.Perm.mem_iff (by decide)

/-- No shown byte is in the list of 30_encoding.md R90. -/
theorem not_mem_unmappedBytes_of_shown : ∀ op ∈ shownOpcodes, op ∉ Machine.unmappedBytes := by
  decide

/-- Settles O3: the table's opcodes and the list share the 256 bytes between them, and `source_shown` keeps the rows of
the five shown ones. -/
theorem unmappedBytesAreRejectedByName : Obligations.UnmappedBytesAreRejectedByName := by
  refine ⟨fun op rest h => ?_, fun op => (findRow_isSome_iff op).2, rfl, by decide, rfl, fun op rest h => ?_,
    fun op h => ?_⟩
  · have hnone : findRow op = none := Option.not_isSome_iff_eq_none.1 fun hs => (findRow_isSome_iff op).1 hs h
    exact decode_of_lookup_none (profile := .full) hnone rest
  · exact decode_of_lookup_none (lookup_sourceShown_of_not_mem (mt (mem_shownOpcodes op).2 h)) rest
  · have hshown := (mem_shownOpcodes op).1 h
    exact ⟨lookup_sourceShown_of_mem hshown, (findRow_isSome_iff op).2 (not_mem_unmappedBytes_of_shown op hshown)⟩

/-! ## Lengths and words -/

/-- Settles O4: the opcode byte comes first, and each mode has its number of operand bytes. -/
theorem instructionLengthFollowsTheMode : Obligations.InstructionLengthFollowsTheMode := by
  intro i
  refine ⟨rfl, (Nat.add_comm _ 1).trans (congrArg (1 + ·) ?_)⟩
  unfold Instr.mode
  cases i.operand <;> rfl

/-- Settles O5, by running the decoder on each of the words. -/
theorem wordsOfTheMatrixDecode : Obligations.WordsOfTheMatrixDecode := by
  unfold Obligations.WordsOfTheMatrixDecode
  decide

end Sys2Proof.Laws
end

section
/-! SUPPORT. The flag updater on the whole status byte (40_flag_update_and_alu.md R100, R101), and the arithmetic unit
in exact integers (R105 to R107) and bit by bit (R111 to R114). -/

namespace Sys2Proof.Machine

/-! ## The flag updater -/

/-- A second call on the same flag is lost in the first. -/
theorem setFlag_setFlag_same (f : Flag) (c : Bool) (p : Byte) : setFlag f c (setFlag f c p) = setFlag f c p := by
  refine status_ext fun g => ?_
  by_cases h : g = f ∧ f ≠ .U <;> simp [h]

/-- Calls on different flags commute: each flag of P is written by at most one of them. -/
theorem setFlag_comm {f g : Flag} (hfg : f ≠ g) (c d : Bool) (p : Byte) :
    setFlag f c (setFlag g d p) = setFlag g d (setFlag f c p) := by
  refine status_ext fun e => ?_
  by_cases h : e = f
  · simp [h, hfg]
  · simp [h]

/-- The updater in masks: every flag but Unused has its bit set or cleared (R100). -/
theorem setFlag_eq_mask {f : Flag} (hf : f ≠ .U) (c : Bool) (p : Byte) :
    setFlag f c p = if c then p ||| (1#8 <<< f.bit) else p &&& ~~~(1#8 <<< f.bit) := by
  cases f with
  | U => exact absurd rfl hf
  | C | Z | I | D | B | V | N => rfl

/-- Settles O18: the masks are the definition's, and the laws of two calls hold at each flag of P. -/
theorem flagUpdaterWritesOneBit : Obligations.FlagUpdaterWritesOneBit :=
  ⟨fun _ c p hf => setFlag_eq_mask hf c p, fun _ _ => rfl, setFlag_setFlag_same,
    fun _ _ c d p hfg => setFlag_comm hfg c d p, rfl⟩

/-! ## Bytes as signed and unsigned numbers -/

/-- Bit 7, the sign, is set in the upper half of the unsigned range. -/
theorem getLsbD_seven_eq_decide (b : Byte) : b.getLsbD 7 = decide (128 ≤ b.toNat) :=
  (BitVec.msb_eq_getLsbD_last b).symm.trans (BitVec.msb_eq_decide b)

/-- The mask of the bit formulas tests bit 7. -/
theorem and_signMask_ne_zero_iff (b : Byte) : b &&& 0x80 ≠ 0#8 ↔ b.getLsbD 7 = true := by
  rw [show (0x80 : Byte) = BitVec.twoPow 8 7 from rfl, BitVec.and_twoPow]
  cases b.getLsbD 7 <;> decide

/-! ## Addition -/

theorem aluAdd_r_toNat (a m : Byte) (cin : Bool) :
    (aluAdd a m cin).r.toNat = (a.toNat + m.toNat + cin.toNat) % 256 := BitVec.toNat_ofNat _ _

theorem aluAdd_cout_iff (a m : Byte) (cin : Bool) :
    (aluAdd a m cin).cout = true ↔ a.toNat + m.toNat + cin.toNat > 255 := decide_eq_true_iff

theorem aluAdd_vout_iff_sign (a m : Byte) (cin : Bool) :
    (aluAdd a m cin).vout = true ↔
      a.getLsbD 7 = m.getLsbD 7 ∧ (aluAdd a m cin).r.getLsbD 7 ≠ a.getLsbD 7 := by
  simp [aluAdd]

/-- The sign of the result differs from the equal signs of the operands exactly when the signed sum does not fit. -/
theorem aluAdd_vout_iff_range (a m : Byte) (cin : Bool) :
    (aluAdd a m cin).vout = true ↔
      a.toInt + m.toInt + (cin.toNat : Int) < -128 ∨ 127 < a.toInt + m.toInt + (cin.toNat : Int) := by
  have hr := aluAdd_r_toNat a m cin
  have hc := cin.toNat_le
  rw [aluAdd_vout_iff_sign, BitVec.toInt_eq_toNat_cond, BitVec.toInt_eq_toNat_cond]
  simp only [getLsbD_seven_eq_decide, ne_eq, decide_eq_decide]
  omega

/-- The bit formula of R105: both operands have the other sign than the result. -/
theorem aluAdd_vout_iff_mask (a m : Byte) (cin : Bool) :
    (aluAdd a m cin).vout = true ↔ (a ^^^ (aluAdd a m cin).r) &&& (m ^^^ (aluAdd a m cin).r) &&& 0x80 ≠ 0#8 := by
  rw [aluAdd_vout_iff_sign, and_signMask_ne_zero_iff, BitVec.getLsbD_and, BitVec.getLsbD_xor, BitVec.getLsbD_xor]
  generalize a.getLsbD 7 = x, m.getLsbD 7 = y, (aluAdd a m cin).r.getLsbD 7 = z
  revert x y z
  decide

/-- Settles O24: the carry is read off the unsigned sum, the overflow off the signed sum or the signs. -/
theorem additionCarriesAndOverflows : Obligations.AdditionCarriesAndOverflows :=
  ⟨fun a m cin => ⟨aluAdd_r_toNat a m cin, aluAdd_cout_iff a m cin, aluAdd_vout_iff_range a m cin,
    aluAdd_vout_iff_sign a m cin, aluAdd_vout_iff_mask a m cin⟩, by decide⟩

/-! ## Subtraction and comparison -/

theorem aluSub_eq_aluAdd_not (a m : Byte) (cin : Bool) : aluSub a m cin = aluAdd a (~~~m) cin :=
  congrArg (aluAdd a · cin) BitVec.xor_allOnes

/-- The one's complement, unsigned. -/
theorem toNat_not_add_toNat (m : Byte) : (~~~m).toNat + m.toNat = 255 := by
  have hm := m.isLt
  rw [BitVec.toNat_not]
  omega

/-- The one's complement, signed. -/
theorem toInt_not_eq (m : Byte) : (~~~m).toInt = -m.toInt - 1 := by
  have hm := toNat_not_add_toNat m
  rw [BitVec.toInt_eq_toNat_cond, BitVec.toInt_eq_toNat_cond]
  omega

theorem aluSub_r_toNat (a m : Byte) (cin : Bool) :
    ((aluSub a m cin).r.toNat : Int) = (a.toNat - m.toNat - (1 - cin.toNat) : Int) % 256 := by
  have hm := toNat_not_add_toNat m
  rw [aluSub_eq_aluAdd_not, aluAdd_r_toNat]
  omega

theorem aluSub_cout_iff (a m : Byte) (cin : Bool) :
    (aluSub a m cin).cout = true ↔ 0 ≤ (a.toNat - m.toNat - (1 - cin.toNat) : Int) := by
  have hm := toNat_not_add_toNat m
  rw [aluSub_eq_aluAdd_not, aluAdd_cout_iff]
  omega

theorem aluSub_vout_iff_range (a m : Byte) (cin : Bool) :
    (aluSub a m cin).vout = true ↔
      a.toInt - m.toInt - (1 - cin.toNat) < -128 ∨ 127 < a.toInt - m.toInt - (1 - cin.toNat) := by
  rw [aluSub_eq_aluAdd_not, aluAdd_vout_iff_range, toInt_not_eq]
  omega

/-- The bit formula of R106: the operands differ in sign, and so do the result and the first operand. -/
theorem aluSub_vout_iff_mask (a m : Byte) (cin : Bool) :
    (aluSub a m cin).vout = true ↔ (a ^^^ m) &&& (a ^^^ (aluSub a m cin).r) &&& 0x80 ≠ 0#8 := by
  rw [and_signMask_ne_zero_iff, BitVec.getLsbD_and, BitVec.getLsbD_xor, BitVec.getLsbD_xor, aluSub_eq_aluAdd_not,
    aluAdd_vout_iff_sign, BitVec.getLsbD_not]
  generalize a.getLsbD 7 = x, m.getLsbD 7 = y, (aluAdd a (~~~m) cin).r.getLsbD 7 = z
  revert x y z
  decide

/-- The result of a comparison is that of the subtraction without borrow. -/
theorem aluCmp_r (a m : Byte) : (aluCmp a m).r = a - m := by
  have h : ((aluCmp a m).r.toNat : Int) = _ := aluSub_r_toNat a m true
  rw [Bool.toNat_true] at h
  refine BitVec.eq_of_toNat_eq ?_
  rw [BitVec.toNat_sub]
  omega

/-- And so is its carry: no borrow is the unsigned order. -/
theorem aluCmp_cout_iff (a m : Byte) : (aluCmp a m).cout = true ↔ m.toNat ≤ a.toNat := by
  have h : (aluCmp a m).cout = true ↔ _ := aluSub_cout_iff a m true
  rw [h, Bool.toNat_true]
  omega

theorem aluCmp_r_eq_zero_iff (a m : Byte) : (aluCmp a m).r = 0#8 ↔ a = m := by
  rw [aluCmp_r, BitVec.sub_eq_iff_eq_add, BitVec.zero_add]

/-- Settles O25: subtraction is addition of the one's complement, comparison the subtraction without borrow. -/
theorem subtractionBorrowsAndCompareOrders : Obligations.SubtractionBorrowsAndCompareOrders :=
  ⟨fun a m cin => ⟨rfl, aluSub_r_toNat a m cin, aluSub_cout_iff a m cin, aluSub_vout_iff_range a m cin,
    aluSub_vout_iff_mask a m cin⟩,
   fun a m => ⟨rfl, rfl, aluCmp_r a m, aluCmp_cout_iff a m, aluCmp_r_eq_zero_iff a m⟩, by decide⟩

/-! ## Shifts and rotates -/

/-- The incoming carry is bit 0, and no other bit. -/
theorem getLsbD_carryIn (c : Bool) (k : Nat) : (carryIn c).getLsbD k = (decide (k = 0) && c) := by
  cases c <;> simp [carryIn]

theorem aluRol_r_getLsbD (v : Byte) (c : Bool) {k : Nat} (hk : k < 8) :
    (aluRol v c).r.getLsbD k = if k = 0 then c else v.getLsbD (k - 1) := by
  rw [aluRol, BitVec.getLsbD_or, BitVec.getLsbD_shiftLeft, getLsbD_carryIn]
  by_cases h : k = 0 <;> simp [h, hk]

theorem aluRor_r_getLsbD (v : Byte) (c : Bool) {k : Nat} (hk : k < 8) :
    (aluRor v c).r.getLsbD k = if k = 7 then c else v.getLsbD (k + 1) := by
  rw [aluRor, BitVec.getLsbD_or, BitVec.getLsbD_ushiftRight, BitVec.getLsbD_shiftLeft, getLsbD_carryIn]
  by_cases h : k = 7
  · simp [h]
  · have hlt : k < 7 := by omega
    simp [h, hk, hlt, Nat.add_comm]

/-- A shift is the rotate with carry 0 coming in (R111 beside R113, R112 beside R114). -/
theorem aluAsl_eq_aluRol (v : Byte) : aluAsl v = aluRol v false := by
  simp [aluAsl, aluRol, carryIn]

theorem aluLsr_eq_aluRor (v : Byte) : aluLsr v = aluRor v false := by
  simp [aluLsr, aluRor, carryIn]

/-- Settles O26: the rotates bit by bit, and the shifts as rotates of carry 0. -/
theorem shiftsAndRotatesMoveOneBit : Obligations.ShiftsAndRotatesMoveOneBit := by
  refine ⟨fun v k hk => ⟨?_, ?_, fun c => ⟨aluRol_r_getLsbD v c hk, aluRor_r_getLsbD v c hk⟩⟩,
    fun v c => ⟨rfl, rfl, rfl, rfl⟩, by decide⟩
  · rw [aluAsl_eq_aluRol]
    exact aluRol_r_getLsbD v false hk
  · rw [aluLsr_eq_aluRor]
    exact aluRor_r_getLsbD v false hk

end Sys2Proof.Machine
end

section
/-! SUPPORT. The address resolver mode by mode (41_address_resolver.md): its sums as numbers (R132), the effective
address of every mode, and the page test read off the base that the mode delivers (R146). -/

namespace Sys2Proof.Machine

/-! ## Bytes and words as numbers -/

theorem hi_toNat (w : Word) : (hi w).toNat = w.toNat / 256 := by
  have hw := w.isLt
  rw [hi, BitVec.toNat_ofNat]
  omega

theorem lo_toNat (w : Word) : (lo w).toNat = w.toNat % 256 := BitVec.toNat_ofNat ..

theorem join_toNat (h l : Byte) : (join h l).toNat = h.toNat * 256 + l.toNat := by
  have hh := h.isLt
  have hl := l.isLt
  rw [join, BitVec.toNat_ofNat]
  omega

theorem zext16_toNat (b : Byte) : (zext16 b).toNat = b.toNat := by
  have hb := b.isLt
  rw [zext16, BitVec.toNat_ofNat]
  omega

/-- A word plus an index register, modulo 65536 (R132). -/
theorem add_zext16_toNat (a : Word) (index : Byte) :
    (a + zext16 index).toNat = (a.toNat + index.toNat) % 65536 := by
  rw [BitVec.toNat_add, zext16_toNat]

/-- Zero extension of a sum of two bytes: the sum wraps in page 0 (R132). -/
theorem zext16_add_toNat (b c : Byte) : (zext16 (b + c)).toNat = (b.toNat + c.toNat) % 256 := by
  rw [zext16_toNat, BitVec.toNat_add]

/-- Sign extension in unsigned terms: the upper half of the bytes goes to page 0xFF. -/
theorem sext16_toNat (d : Byte) :
    (sext16 d).toNat = if 128 ≤ d.toNat then 0xFF00 + d.toNat else d.toNat := by
  simp only [sext16, getLsbD_seven_eq_decide, decide_eq_true_eq]
  split
  · rw [BitVec.toNat_or, zext16_toNat]
    exact (Nat.shiftLeft_add_eq_or_of_lt (a := 0xFF) d.isLt).symm
  · exact zext16_toNat d

/-- Sign extension keeps the signed value. -/
theorem sext16_toInt (d : Byte) : (sext16 d).toInt = d.toInt := by
  have hd := d.isLt
  rw [BitVec.toInt_eq_toNat_cond, BitVec.toInt_eq_toNat_cond, sext16_toNat]
  split_ifs <;> omega

/-- A word plus a signed displacement, modulo 65536 (R132, R145). -/
theorem add_sext16_toNat (a : Word) (d : Byte) :
    ((a + sext16 d).toNat : Int) = ((a.toNat : Int) + d.toInt) % 65536 := by
  rw [← sext16_toInt, BitVec.toInt_eq_toNat_cond, BitVec.toNat_add]
  omega

/-- The second pointer byte of Absolute Indirect stays in the page of the first one, or follows it (R142). -/
theorem secondPointer_toNat (pageWrap : Bool) (ptr : Word) :
    (secondPointer pageWrap ptr).toNat =
      if pageWrap then ptr.toNat / 256 * 256 + (ptr.toNat + 1) % 256 else (ptr.toNat + 1) % 65536 := by
  cases pageWrap with
  | false => exact BitVec.toNat_add ptr 1
  | true =>
    have hlo : (lo ptr + 1).toNat = (ptr.toNat + 1) % 256 := by
      rw [BitVec.toNat_add, lo_toNat]
      exact Nat.mod_add_mod ..
    rw [secondPointer, if_pos rfl, if_pos rfl, join_toNat, hi_toNat, hlo]

/-- The page test compares the two addresses divided by the size of a page. -/
theorem hi_bne_hi (v w : Word) : (hi v != hi w) = decide (v.toNat / 256 ≠ w.toNat / 256) := by
  rw [Bool.eq_iff_iff, bne_iff_ne, decide_eq_true_iff, ← hi_toNat, ← hi_toNat]
  exact BitVec.toNat_inj.symm.not

/-! ## The effective address of each mode that yields one -/

theorem effectiveAddress_zp (b : Byte) (s : State) : effectiveAddress (.zp b) s = some (zext16 b) := rfl
theorem effectiveAddress_zpx (b : Byte) (s : State) : effectiveAddress (.zpx b) s = some (zext16 (b + s.x)) := rfl
theorem effectiveAddress_zpy (b : Byte) (s : State) : effectiveAddress (.zpy b) s = some (zext16 (b + s.y)) := rfl
theorem effectiveAddress_abs (a : Word) (s : State) : effectiveAddress (.abs a) s = some a := rfl
theorem effectiveAddress_absx (a : Word) (s : State) : effectiveAddress (.absx a) s = some (a + zext16 s.x) := rfl
theorem effectiveAddress_absy (a : Word) (s : State) : effectiveAddress (.absy a) s = some (a + zext16 s.y) := rfl

theorem effectiveAddress_ind (a : Word) (s : State) : effectiveAddress (.ind a) s =
    some (join (s.byteAt (secondPointer s.cfg.jmpIndPageWrap a)) (s.byteAt a)) := rfl

theorem effectiveAddress_indx (b : Byte) (s : State) : effectiveAddress (.indx b) s =
    some (join (s.byteAt (zext16 (b + s.x + 1))) (s.byteAt (zext16 (b + s.x)))) := rfl

theorem effectiveAddress_indy (b : Byte) (s : State) : effectiveAddress (.indy b) s =
    some (join (s.byteAt (zext16 (b + 1))) (s.byteAt (zext16 b)) + zext16 s.y) := rfl

theorem effectiveAddress_rel (d : Byte) (s : State) : effectiveAddress (.rel d) s = some (s.pc + 1 + sext16 d) := rfl

/-! ## The base and the page test -/

/-- Settles O60: each mode's function of the resolver either delivers a base or leaves the working copy's `none`. -/
theorem resolverDeliversTheBaseOfThePageTest : Obligations.ResolverDeliversTheBaseOfThePageTest := by
  intro o s
  cases o <;> rfl

/-- A mode that delivers a base signals whether the effective address lies in another page than the base (R146). -/
theorem resolve_pageCross_of_base {o : Operand} {s : State} {base : Word}
    (h : (resolve o (start s)).base = some base) :
    ∃ ea, effectiveAddress o s = some ea ∧ (resolve o (start s)).pageCross = (hi ea != hi base) := by
  cases o
  case absx | absy | indy | rel =>
    obtain rfl := Option.some.inj h
    exact ⟨_, rfl, rfl⟩
  all_goals cases h

/-- A mode that delivers no base signals no page crossing (R146). -/
theorem resolve_pageCross_of_no_base {o : Operand} {s : State} (h : (resolve o (start s)).base = none) :
    (resolve o (start s)).pageCross = false := by
  cases o
  case absx | absy | indy | rel => cases h
  all_goals rfl

/-- After the resolver PC is past the operand bytes (R131). -/
theorem resolve_start_pc (o : Operand) (s : State) :
    (resolve o (start s)).st.pc = s.pc + BitVec.ofNat 16 o.bytes.length := by
  obtain ⟨d, hd⟩ := resolve_st o (start s)
  rw [hd]
  rfl

/-- What a mode without a page test gives. -/
theorem resolverGives_of_no_base {o : Operand} {s : State} {ea : Option Word} {operand : Option Byte}
    (hbase : (resolve o (start s)).base = none) (hea : effectiveAddress o s = ea)
    (hoperand : (resolve o (start s)).operand = operand) : ResolverGives o s ea operand false :=
  ⟨hea, hoperand, resolve_pageCross_of_no_base hbase, resolve_start_pc o s⟩

/-- What a mode with a page test gives. -/
theorem resolverGives_of_base {o : Operand} {s : State} {base ea : Word}
    (hbase : (resolve o (start s)).base = some base) (hea : effectiveAddress o s = some ea)
    (hoperand : (resolve o (start s)).operand = none) :
    ResolverGives o s (some ea) none (decide (ea.toNat / 256 ≠ base.toNat / 256)) := by
  obtain ⟨ea', hea', hcross⟩ := resolve_pageCross_of_base hbase
  obtain rfl : ea' = ea := Option.some.inj (hea'.symm.trans hea)
  exact ⟨hea, hoperand, hcross.trans (hi_bne_hi ea' base), resolve_start_pc o s⟩

/-! ## The modes -/

/-- Settles O27. -/
theorem plainModesResolve : Obligations.PlainModesResolve := fun s b a =>
  ⟨resolverGives_of_no_base rfl rfl rfl, rfl, rfl, resolverGives_of_no_base rfl rfl rfl, rfl, rfl,
    resolverGives_of_no_base rfl rfl rfl,
    ⟨_, zext16_toNat b, resolverGives_of_no_base rfl (effectiveAddress_zp b s) rfl⟩,
    resolverGives_of_no_base rfl (effectiveAddress_abs a s) rfl, rfl⟩

/-- Settles O28: the sum is one of bytes, and zero extension keeps it. -/
theorem zeroPageIndexedWrapsInPageZero : Obligations.ZeroPageIndexedWrapsInPageZero := by
  intro s b
  refine ⟨⟨_, zext16_add_toNat b s.x, resolverGives_of_no_base rfl (effectiveAddress_zpx b s) rfl⟩,
    ⟨_, zext16_add_toNat b s.y, resolverGives_of_no_base rfl (effectiveAddress_zpy b s) rfl⟩,
    fun hx => ?_, fun hy => ?_⟩
  · rw [effectiveAddress_zpx, hx]
    rfl
  · rw [effectiveAddress_zpy, hy]
    rfl

/-- Settles O29: the operand is the base, and the sum with the index is one of words. -/
theorem absoluteIndexedWrapsAndSignals : Obligations.AbsoluteIndexedWrapsAndSignals := fun s a =>
  ⟨⟨_, add_zext16_toNat a s.x, resolverGives_of_base rfl (effectiveAddress_absx a s) rfl⟩,
    ⟨_, add_zext16_toNat a s.y, resolverGives_of_base rfl (effectiveAddress_absy a s) rfl⟩⟩

/-- Settles O30: each mode joins the two bytes at its pointer's addresses, which are sums of bytes in page 0, or for
Absolute Indirect the operand and `secondPointer`. -/
theorem pointerModesReadTheirPointers : Obligations.PointerModesReadTheirPointers := by
  intro s a b
  have hnext : (zext16 (b + s.x + 1)).toNat = (b.toNat + s.x.toNat + 1) % 256 := by
    rw [zext16_add_toNat, BitVec.toNat_add]
    exact Nat.mod_add_mod ..
  refine ⟨⟨_, _, Laws.hi_join _ _, Laws.lo_join _ _, secondPointer_toNat _ a,
      resolverGives_of_no_base rfl (effectiveAddress_ind a s) rfl⟩,
    ⟨_, _, _, zext16_add_toNat b s.x, hnext, Laws.lo_join _ _, Laws.hi_join _ _,
      resolverGives_of_no_base rfl (effectiveAddress_indx b s) rfl⟩,
    ⟨_, _, _, _, zext16_toNat b, zext16_add_toNat b 1, Laws.lo_join _ _, Laws.hi_join _ _, add_zext16_toNat _ s.y,
      resolverGives_of_base rfl (effectiveAddress_indy b s) rfl⟩⟩

/-- Settles O31: the base is the address after the operand byte, and the displacement is added as a signed number. -/
theorem relativeTargetsFromTheNextInstruction : Obligations.RelativeTargetsFromTheNextInstruction := fun s d =>
  ⟨_, _, BitVec.toNat_add s.pc 1, add_sext16_toNat _ d, resolverGives_of_base rfl (effectiveAddress_rel d s) rfl⟩

/-! ## What the resolver reads and writes -/

/-- Only a mode with a page test delivers a base. -/
theorem resolve_base_eq_none {o : Operand} {s : State} (h : o.mode ∉ [.absx, .absy, .indy, .rel]) :
    (resolve o (start s)).base = none := by
  rw [resolverDeliversTheBaseOfThePageTest o s]
  cases o
  case absx | absy | indy | rel => simp [Operand.mode] at h
  all_goals rfl

/-- But for PC and the data latch, the resolver leaves the state as it was (R148). -/
theorem resolve_start_st_restored (o : Operand) (s : State) :
    ((resolve o (start s)).st.setPC s.pc).setDataBus s.dataBus = s := by
  obtain ⟨d, hd⟩ := resolve_st o (start s)
  rw [hd]
  rfl

/-- Settles O32: the reads are listed mode by mode; the signal is the page test of the base of O60. -/
theorem resolverWritesOnlyThePC : Obligations.ResolverWritesOnlyThePC := by
  intro o s
  refine ⟨resolve_start_st_restored o s, ?_, fun h => resolve_pageCross_of_no_base (resolve_base_eq_none h),
    fun base h => resolve_pageCross_of_base ?_⟩
  · cases o <;> rfl
  · rw [resolverDeliversTheBaseOfThePageTest o s]
    cases o
    case absx | absy | indy | rel => exact congrArg some h.symm
    all_goals exact h.elim

end Sys2Proof.Machine
end

section
/-! SUPPORT. Loads, stores and transfers (42_load_store_transfer.md): how an instruction that writes Z and N from a byte
completes, then the three groups. -/

namespace Sys2Proof.Machine

/-! ## Completing with Z and N set from a byte -/

/-- `SetNZ(r)` on the entry's P is what the frame of Z and N says (40_flag_update_and_alu.md R103). -/
theorem flagsBecome_nz {s t : State} {r : Byte} (h : t.p = setNZ r s.p) : FlagsBecome s t (nz r) := by
  intro f
  rw [State.flag, h, getFlag_setNZ]
  cases f <;> rfl

/-- An instruction whose last act is `SetNZ(r)` completes with the registers it had by then, when P and memory were
still those of the entry. -/
theorem completes_setNZ {i : Instr} {s : State} {w : Work} {r a x y sp : Byte} {pc : Word} (hb : OnArrayBus s)
    (hw : work i s = w.setNZ r) (hrefusal : w.refusal = none) (hregs : RegistersAre w.st a x y sp pc)
    (hp : w.st.p = s.p) (hmem : w.st.mem = s.mem) :
    Completes i s (fun t => RegistersAre t a x y sp pc ∧ FlagsBecome s t (nz r) ∧ MemorySame s t) := by
  have hnext := exec_next hb (show (work i s).refusal = none by rw [hw]; exact hrefusal)
  rw [hw] at hnext
  exact ⟨_, hnext, hregs, flagsBecome_nz (congrArg (setNZ r) hp), State.byteAt_congr hmem⟩

/-- An instruction that reads its operand, changes a register by `f` and sets Z and N completes; `f` finds PC past the
operand bytes. -/
theorem completes_readOperand_setNZ {i : Instr} {s : State} {f : State → State} {r a x y sp : Byte}
    (hb : OnArrayBus s)
    (hw : work i s = ((readOperand (resolve i.operand (start s))).2.upd f).setNZ r)
    (hf : ∀ d, let t := f ((s.setPC (nextPC i s)).setDataBus d)
      RegistersAre t a x y sp (nextPC i s) ∧ t.p = s.p ∧ t.mem = s.mem) :
    Completes i s (fun t => RegistersAre t a x y sp (nextPC i s) ∧ FlagsBecome s t (nz r) ∧ MemorySame s t) := by
  obtain ⟨c, hc⟩ := resolve_st i.operand (start s)
  obtain ⟨d, hd⟩ := readOperand_st (resolve i.operand (start s))
  have hst : (readOperand (resolve i.operand (start s))).2.st = (s.setPC (nextPC i s)).setDataBus d := by
    rw [hd, hc]
    rfl
  obtain ⟨hregs, hp, hmem⟩ := hf d
  rw [← hst] at hregs hp hmem
  exact completes_setNZ hb hw (by simp [resolve_refusal]) hregs hp hmem

/-! ## Loads -/

/-- The working copy of a load (R161 to R163): a handler that reads its operand, puts it in a register by `set` and sets
Z and N from it does so with the instruction's operand byte. -/
theorem work_load {i : Instr} {set : Byte → State → State} (s : State)
    (h : handler i.mnemonic = fun w => ((readOperand w).2.upd (set (readOperand w).1)).setNZ (readOperand w).1) :
    work i s = ((readOperand (resolve i.operand (start s))).2.upd
      (set (operandByte i.operand s))).setNZ (operandByte i.operand s) := by
  rw [work, h, ← readOperand_fst]

/-- Settles O35: LDA reads its operand, stores it into A, and sets Z and N from it. -/
theorem ldaLoadsTheOperand : Obligations.LdaLoadsTheOperand :=
  ⟨by decide, fun _ s h hb =>
    completes_readOperand_setNZ hb (work_load s (by rw [h]; rfl)) fun _ => ⟨⟨rfl, rfl, rfl, rfl, rfl⟩, rfl, rfl⟩⟩

/-- Settles O36: as for LDA, with the index register in the place of A. -/
theorem ldxAndLdyLoadTheOperand : Obligations.LdxAndLdyLoadTheOperand := by
  refine ⟨by decide, by decide, fun i s hb => ⟨fun h => ?_, fun h => ?_⟩⟩
  · exact completes_readOperand_setNZ hb (work_load s (by rw [h]; rfl)) fun _ => ⟨⟨rfl, rfl, rfl, rfl, rfl⟩, rfl, rfl⟩
  · exact completes_readOperand_setNZ hb (work_load s (by rw [h]; rfl)) fun _ => ⟨⟨rfl, rfl, rfl, rfl, rfl⟩, rfl, rfl⟩

/-! ## Stores -/

/-- The register a store writes, as the resolver leaves it, is that of the entry (R164 to R166): the store is one write
of it at the effective address. -/
theorem work_store {i : Instr} {s : State} {v : Byte}
    (h : (i.mnemonic = .STA ∧ v = s.a) ∨ (i.mnemonic = .STX ∧ v = s.x) ∨ (i.mnemonic = .STY ∧ v = s.y)) :
    work i s = (resolve i.operand (start s)).write (resolve i.operand (start s)).target v := by
  obtain ⟨d, hd⟩ := resolve_st i.operand (start s)
  rcases h with ⟨h, rfl⟩ | ⟨h, rfl⟩ | ⟨h, rfl⟩
  · simp [work, h, handler, doSta, hd]
  · simp [work, h, handler, doStx, hd]
  · simp [work, h, handler, doSty, hd]

/-- An instruction that only writes one byte at an address completes with that byte stored and PC past the operand. -/
theorem completes_write {i : Instr} {s : State} {ea : Word} {v : Byte} (hb : OnArrayBus s) (hm : Memory.wf s.mem)
    (hw : work i s = (resolve i.operand (start s)).write ea v) :
    Completes i s (fun t => RegistersAre t s.a s.x s.y s.sp (nextPC i s) ∧ t.p = s.p ∧
      MemoryStored s t [(ea, v)]) := by
  obtain ⟨d, hd⟩ := resolve_st i.operand (start s)
  have hnext := exec_next hb (show (work i s).refusal = none by rw [hw]; exact resolve_refusal _ _)
  rw [hw, Work.write_st, hd] at hnext
  exact ⟨_, hnext, ⟨rfl, rfl, rfl, rfl, rfl⟩, rfl, memoryStored_store ea v hm⟩

/-- Settles O37: a store's mode yields an effective address, and its handler is one write there. -/
theorem storesWriteTheRegisterAtTheAddress : Obligations.StoresWriteTheRegisterAtTheAddress := by
  refine ⟨by decide, by decide, by decide, fun i s v hb hm h => ?_⟩
  have hmode : i.mnemonic ∈ [.STA, .STX, .STY, .INC, .DEC, .BIT, .JMP, .JSR] := by
    rcases h with ⟨h, -⟩ | ⟨h, -⟩ | ⟨h, -⟩ <;> simp [h]
  obtain ⟨ea, hea, -, htarget⟩ := exists_ea s (mode_of_mnemonic hmode)
  have hw := work_store h
  rw [htarget] at hw
  exact ⟨ea, hea, by rw [hw]; rfl, completes_write hb hm hw⟩

/-! ## Transfers -/

/-- Settles O38: each transfer changes one register by a copy and ends with `SetNZ`, except TXS, which ends with the
copy. -/
theorem transfersCopyARegister : Obligations.TransfersCopyARegister := by
  refine ⟨by decide, by decide, by decide, by decide, by decide, by decide, fun s hb =>
    ⟨?tax, ?tay, ?txa, ?tya, ?tsx, ?txs⟩⟩
  case txs => exact ⟨_, exec_next hb rfl, ⟨rfl, rfl, rfl, rfl, rfl⟩, rfl, fun _ => rfl⟩
  case tax | tay | txa | tya | tsx => exact completes_setNZ hb rfl rfl ⟨rfl, rfl, rfl, rfl, rfl⟩ rfl rfl

end Sys2Proof.Machine
end

section
/-! SUPPORT. Arithmetic and logic (43_arithmetic_logic.md): when a step is refused, how an instruction that reads its
operand completes, what its flags become, then the groups of the section. -/

namespace Sys2Proof.Machine

/-! ## Refusals -/

theorem not_decimalAllowed_iff (s : State) :
    ¬ DecimalAllowed s ↔ s.cfg.decimalMode = .refuse ∧ s.flag .D = true := by
  cases h : s.cfg.decimalMode <;> simp [DecimalAllowed, h]

/-- The end of ADC and SBC refuses exactly in a state without a meaning, which the operand read does not change. -/
theorem accumulate_refusal (q : Sum) (w : Work) :
    (addToA q (decimalGuard (readOperand w).2)).refusal =
      if ¬ DecimalAllowed w.st then some .decimalMode else w.refusal := by
  obtain ⟨d, hd⟩ := readOperand_st w
  rw [addToA_refusal, decimalGuard_refusal, hd, readOperand_refusal]
  simp only [not_decimalAllowed_iff]
  rfl

/-- No other handler has a refusal of its own. -/
theorem handler_refusal_of_ne {m : Mnemonic} (hadc : m ≠ .ADC) (hsbc : m ≠ .SBC) (w : Work) :
    (handler m w).refusal = w.refusal := by
  cases m
  case ADC => exact absurd rfl hadc
  case SBC => exact absurd rfl hsbc
  case LDA | LDX | LDY | AND | ORA | EOR | CMP | CPX | CPY => exact readOperand_refusal w
  case ASL | LSR | ROL | ROR => exact (writeResult_refusal _ _).trans (readOperand_refusal w)
  case BCC | BCS | BEQ | BNE | BMI | BPL | BVC | BVS => exact branch_refusal w _
  case JSR => rw [handler, doJsr, Work.upd_refusal, Work.push16_refusal]
  case RTS => rw [handler, doRts, Work.upd_refusal, Work.pull16_refusal]
  case BRK => exact (w.takeTrap_rest _ _).2.2
  case RTI => exact w.returnFromTrap_rest.2.2
  all_goals rfl

/-- The one refusal of the model, and where it stands (R181, R182). -/
theorem work_refusal (i : Instr) (s : State) :
    (work i s).refusal =
      if (i.mnemonic = .ADC ∨ i.mnemonic = .SBC) ∧ ¬ DecimalAllowed s then some .decimalMode else none := by
  obtain ⟨d, hd⟩ := resolve_st i.operand (start s)
  have hdecimal : DecimalAllowed (resolve i.operand (start s)).st ↔ DecimalAllowed s := by rw [hd]; rfl
  have hguard (q : Sum) := accumulate_refusal q (resolve i.operand (start s))
  simp only [hdecimal, resolve_refusal, start_refusal] at hguard
  by_cases hadc : i.mnemonic = .ADC
  · simp only [work, hadc, true_or, true_and]
    exact hguard _
  by_cases hsbc : i.mnemonic = .SBC
  · simp only [work, hsbc, or_true, true_and]
    exact hguard _
  · simp [work, handler_refusal_of_ne hadc hsbc, resolve_refusal, hadc, hsbc]

/-- A commit refuses exactly what a handler refused. -/
theorem commit_eq_refused_iff (s : State) (w : Work) (r : Refusal) :
    commit s w = .refused r ↔ w.refusal = some r := by
  unfold commit
  cases hw : w.refusal with
  | some r' => simp
  | none => cases w.log.find? (fun x => rejects s.cfg x.addr) <;> simp

/-- Settles O58: a step is refused where its handler is, and `work_refusal` says where that is. -/
theorem refusalIsDecimalModeOnly : Obligations.RefusalIsDecimalModeOnly := by
  refine ⟨fun i s hi hd => ?_, fun i s r h => ?_⟩
  · rw [exec_eq_commit, commit_eq_refused_iff, work_refusal, if_pos ⟨hi, hd⟩]
  · rw [exec_eq_commit, commit_eq_refused_iff, work_refusal] at h
    obtain ⟨⟨hi, hd⟩, hr⟩ := Option.ite_none_right_eq_some.1 h
    exact ⟨(Option.some.inj hr).symm, hi, hd⟩

/-! ## Completing with an operand read -/

/-- After the operand read PC is past the operand bytes, the data latch may have moved, and all else is as on entry. -/
theorem readOperand_resolve_st (i : Instr) (s : State) :
    ∃ d, (readOperand (resolve i.operand (start s))).2.st = (s.setPC (nextPC i s)).setDataBus d := by
  obtain ⟨c, hc⟩ := resolve_st i.operand (start s)
  obtain ⟨d, hd⟩ := readOperand_st (resolve i.operand (start s))
  exact ⟨d, by rw [hd, hc]; rfl⟩

/-- On the array bus an instruction with a meaning completes with the state its handler left, and the commit writes the
address latch only. -/
theorem completes_of_work_st {i : Instr} {s u : State} {post : State → Prop} (hb : OnArrayBus s)
    (hrefusal : (work i s).refusal = none) (hst : (work i s).st = u) (hpost : ∀ b, post (u.setAddrBus b)) :
    Completes i s post := by
  subst hst
  exact ⟨_, exec_next hb hrefusal, hpost _⟩

/-! ## Flags -/

/-- C, then `SetNZ(r)` (R187). -/
theorem flagsBecome_carried {s t : State} {q : Carried} (h : t.p = setNZ q.r (setFlag .C q.cout s.p)) :
    FlagsBecome s t ((.C, q.cout) :: nz q.r) := by
  intro f
  rw [State.flag, h, getFlag_setNZ, getFlag_setFlag]
  cases f <;> rfl

/-- C, V, then `SetNZ(r)` (R181, R182). -/
theorem flagsBecome_sum {s t : State} {q : Sum} (h : t.p = setNZ q.r (setFlag .V q.vout (setFlag .C q.cout s.p))) :
    FlagsBecome s t ((.C, q.cout) :: (.V, q.vout) :: nz q.r) := by
  intro f
  rw [State.flag, h, getFlag_setNZ, getFlag_setFlag, getFlag_setFlag]
  cases f <;> rfl

/-- Z, N and V, each by a call of the flag updater (R186). -/
theorem flagsBecome_bitTest {s t : State} {q : BitTest}
    (h : t.p = setFlag .V q.v (setFlag .N q.n (setFlag .Z q.z s.p))) :
    FlagsBecome s t [(.Z, q.z), (.N, q.n), (.V, q.v)] := by
  intro f
  rw [State.flag, h, getFlag_setFlag, getFlag_setFlag, getFlag_setFlag]
  cases f <;> rfl

/-- The flags of a comparison in terms of the two bytes: order, equality, bit 7 of the difference (R187). -/
theorem flagsBecome_compare {s t : State} {a m : Byte}
    (h : t.p = setNZ (aluCmp a m).r (setFlag .C (aluCmp a m).cout s.p)) :
    FlagsBecome s t [(.C, decide (m.toNat ≤ a.toNat)), (.Z, a == m), (.N, (a - m).getLsbD 7)] := by
  have hc : (aluCmp a m).cout = decide (m.toNat ≤ a.toNat) :=
    Bool.eq_iff_iff.2 ((aluCmp_cout_iff a m).trans decide_eq_true_iff.symm)
  have hz : ((aluCmp a m).r == 0#8) = (a == m) :=
    Bool.eq_iff_iff.2 (beq_iff_eq.trans ((aluCmp_r_eq_zero_iff a m).trans beq_iff_eq.symm))
  have hflags := flagsBecome_carried h
  rwa [nz, hc, hz, aluCmp_r] at hflags

/-! ## ADC and SBC -/

/-- ADC and SBC end with the ALU's result for A, the operand byte and C of the entry (R181, R182). -/
theorem work_accumulate {i : Instr} {s : State} {q : Sum}
    (h : (i.mnemonic = .ADC ∧ q = aluAdd s.a (operandByte i.operand s) (s.flag .C)) ∨
      (i.mnemonic = .SBC ∧ q = aluSub s.a (operandByte i.operand s) (s.flag .C))) :
    work i s = addToA q (decimalGuard (readOperand (resolve i.operand (start s))).2) := by
  obtain ⟨d, hd⟩ := readOperand_resolve_st i s
  rcases h with ⟨h, rfl⟩ | ⟨h, rfl⟩
  · simp [work, h, handler, doAdc, readOperand_fst, hd]
  · simp [work, h, handler, doSbc, readOperand_fst, hd]

/-- Settles O39: with a meaning, the two complete with A, C, V, Z and N from the ALU's result. -/
theorem adcAndSbcAccumulateWithCarry : Obligations.AdcAndSbcAccumulateWithCarry := by
  refine ⟨by decide, by decide, fun i s q hb h hdecimal => ?_⟩
  obtain ⟨d, hd⟩ := readOperand_resolve_st i s
  have hst : (work i s).st = (((s.setPC (nextPC i s)).setDataBus d).setA q.r).setP
      (setNZ q.r (setFlag .V q.vout (setFlag .C q.cout s.p))) := by
    rw [work_accumulate h, addToA_st, decimalGuard_st, hd]
    rfl
  have hrefusal : (work i s).refusal = none := by
    rw [work_refusal, if_neg fun hn => hn.2 hdecimal]
  exact completes_of_work_st hb hrefusal hst fun _ =>
    ⟨⟨rfl, rfl, rfl, rfl, rfl⟩, flagsBecome_sum rfl, fun _ => rfl⟩

/-! ## AND, ORA and EOR -/

/-- The three put their combination of A and the operand byte into A and set Z and N from it (R183 to R185). -/
theorem work_logic {i : Instr} {s : State} {r : Byte}
    (h : (i.mnemonic = .AND ∧ r = s.a &&& operandByte i.operand s) ∨
      (i.mnemonic = .ORA ∧ r = s.a ||| operandByte i.operand s) ∨
      (i.mnemonic = .EOR ∧ r = s.a ^^^ operandByte i.operand s)) :
    work i s = ((readOperand (resolve i.operand (start s))).2.upd (State.setA r)).setNZ r := by
  obtain ⟨d, hd⟩ := readOperand_resolve_st i s
  rcases h with ⟨h, rfl⟩ | ⟨h, rfl⟩ | ⟨h, rfl⟩
  · simp [work, h, handler, doAnd, aluAnd, readOperand_fst, hd]
  · simp [work, h, handler, doOra, aluOra, readOperand_fst, hd]
  · simp [work, h, handler, doEor, aluEor, readOperand_fst, hd]

/-- Settles O40: as for a load of A, with the combination in the place of the operand byte. -/
theorem logicCombinesIntoA : Obligations.LogicCombinesIntoA :=
  ⟨by decide, by decide, by decide, fun _ _ _ hb h =>
    completes_readOperand_setNZ hb (work_logic h) fun _ => ⟨⟨rfl, rfl, rfl, rfl, rfl⟩, rfl, rfl⟩⟩

/-! ## BIT -/

/-- BIT ends with the three flags of the test of A and the byte at the effective address (R186). -/
theorem work_bit_st {i : Instr} {s : State} {ea : Word} (h : i.mnemonic = .BIT)
    (htarget : (resolve i.operand (start s)).target = ea) :
    (work i s).st = ((s.setPC (nextPC i s)).setDataBus (s.byteAt ea)).setP (setFlag .V (aluBit s.a (s.byteAt ea)).v
      (setFlag .N (aluBit s.a (s.byteAt ea)).n (setFlag .Z (aluBit s.a (s.byteAt ea)).z s.p))) := by
  obtain ⟨d, hd⟩ := resolve_st i.operand (start s)
  simp only [work, h, handler, doBit, htarget, Work.setFlag_st, Work.read_st, Work.read_fst, hd]
  rfl

/-- Settles O41: the mode of BIT yields an effective address, and its handler is one read there and three flags. -/
theorem bitTestsTheMemoryByte : Obligations.BitTestsTheMemoryByte := by
  refine ⟨by decide, fun i s h hb => ?_⟩
  obtain ⟨ea, hea, -, htarget⟩ := exists_ea s (mode_of_mnemonic (i := i) (by simp [h]))
  have hrefusal : (work i s).refusal = none := by simp [work_refusal, h]
  refine ⟨ea, hea, completes_of_work_st hb hrefusal (work_bit_st h htarget) fun _ => ⟨?_, ?_, ?_⟩⟩
  · simp [RegistersAre]
  · exact flagsBecome_bitTest (q := aluBit s.a (s.byteAt ea)) rfl
  · exact fun _ => rfl

/-! ## CMP, CPX and CPY -/

/-- A comparison ends with C, Z and N of the register of the entry against the operand byte (R187 to R189). -/
theorem work_compare {i : Instr} {s : State} {a : Byte}
    (h : (i.mnemonic = .CMP ∧ a = s.a) ∨ (i.mnemonic = .CPX ∧ a = s.x) ∨ (i.mnemonic = .CPY ∧ a = s.y)) :
    work i s = setCNZ (aluCmp a (operandByte i.operand s)) (readOperand (resolve i.operand (start s))).2 := by
  obtain ⟨d, hd⟩ := readOperand_resolve_st i s
  rcases h with ⟨h, rfl⟩ | ⟨h, rfl⟩ | ⟨h, rfl⟩
  · simp [work, h, handler, doCmp, readOperand_fst, hd]
  · simp [work, h, handler, doCpx, readOperand_fst, hd]
  · simp [work, h, handler, doCpy, readOperand_fst, hd]

/-- Settles O42: nothing is written after the operand read but C, Z and N, and `flagsBecome_compare` reads these off the
two bytes. -/
theorem comparesSetFlagsOnly : Obligations.ComparesSetFlagsOnly := by
  refine ⟨by decide, by decide, by decide, fun i s a hb h => ?_⟩
  obtain ⟨d, hd⟩ := readOperand_resolve_st i s
  have hst : (work i s).st = ((s.setPC (nextPC i s)).setDataBus d).setP (setNZ (aluCmp a (operandByte i.operand s)).r
      (setFlag .C (aluCmp a (operandByte i.operand s)).cout s.p)) := by
    rw [work_compare h, setCNZ_st, hd]
    rfl
  have hrefusal : (work i s).refusal = none := by
    rw [work_compare h, setCNZ_refusal, readOperand_refusal, resolve_refusal, start_refusal]
  refine completes_of_work_st hb hrefusal hst fun _ => ⟨?_, ?_, ?_⟩
  · simp [RegistersAre]
  · exact flagsBecome_compare rfl
  · exact fun _ => rfl

/-! ## INC and DEC -/

/-- The two read the byte at the effective address, write the result there and set Z and N from it (R190, R191). -/
theorem work_incDec {i : Instr} {s : State} {ea : Word} {r : Byte} (h : i.mnemonic = .INC ∨ i.mnemonic = .DEC)
    (htarget : (resolve i.operand (start s)).target = ea)
    (hr : r = if i.mnemonic = .INC then s.byteAt ea + 1 else s.byteAt ea - 1) :
    work i s = (((resolve i.operand (start s)).read ea).2.write ea r).setNZ r := by
  have hm := resolve_start_byteAt i.operand s ea
  rcases h with h | h
  · simp [work, h, handler, doInc, aluInc, htarget, hm, hr]
  · simp [work, h, handler, doDec, aluDec, htarget, hm, hr]

/-- An instruction that reads a byte, writes another there and sets Z and N from it completes with that byte stored. -/
theorem completes_read_write_setNZ {i : Instr} {s : State} {ea : Word} {r : Byte} (hb : OnArrayBus s)
    (hm : Memory.wf s.mem) (hw : work i s = (((resolve i.operand (start s)).read ea).2.write ea r).setNZ r) :
    Completes i s (fun t => RegistersAre t s.a s.x s.y s.sp (nextPC i s) ∧ FlagsBecome s t (nz r) ∧
      MemoryStored s t [(ea, r)]) := by
  obtain ⟨d, hd⟩ := resolve_st i.operand (start s)
  have hst : (work i s).st =
      (((s.setPC (nextPC i s)).store ea r).setDataBus r).setP (setNZ r s.p) := by
    simp [hw, hd, nextPC, State.setDataBus, State.setPC, State.store, State.setMem, State.setP]
  have hrefusal : (work i s).refusal = none := by
    rw [hw, Work.setNZ_refusal, Work.write_refusal, Work.read_refusal, resolve_refusal, start_refusal]
  refine completes_of_work_st hb hrefusal hst fun _ => ⟨?_, ?_, ?_⟩
  · simp [RegistersAre]
  · exact flagsBecome_nz rfl
  · exact memoryStored_store (s := s) ea r hm

/-- Settles O43: their modes yield an effective address, and their handlers are one read and one write there. -/
theorem incAndDecModifyMemory : Obligations.IncAndDecModifyMemory := by
  refine ⟨by decide, by decide, fun i s h hb hm => ?_⟩
  have hmode : i.mnemonic ∈ [.STA, .STX, .STY, .INC, .DEC, .BIT, .JMP, .JSR] := by
    rcases h with h | h <;> simp [h]
  obtain ⟨ea, hea, -, htarget⟩ := exists_ea s (mode_of_mnemonic hmode)
  have hw := work_incDec h htarget rfl
  refine ⟨ea, hea, ?_, completes_read_write_setNZ hb hm hw⟩
  simp [hw, resolve_start_byteAt]

/-! ## INX, INY, DEX and DEY -/

/-- Settles O44: each changes one register and ends with `SetNZ`. -/
theorem indexRegistersCountModulo256 : Obligations.IndexRegistersCountModulo256 := by
  refine ⟨by decide, by decide, by decide, by decide, fun s hb => ⟨?inx, ?iny, ?dex, ?dey⟩⟩
  case inx | iny | dex | dey => exact completes_setNZ hb rfl rfl ⟨rfl, rfl, rfl, rfl, rfl⟩ rfl rfl

end Sys2Proof.Machine
end

section
/-! SUPPORT. Shifts and rotates (44_shift_rotate.md): the shape the four handlers share, how such an instruction
completes in Accumulator mode and in the memory modes, then the shifts and the rotates. -/

namespace Sys2Proof.Machine

/-! ## Completing with a shifted byte -/

/-- The four read their operand, write the result back where it came from and set C, Z and N from it (R210); the carry
a rotate takes in is that of the entry. -/
theorem work_shift {i : Instr} {s : State} {q : Carried}
    (h : (i.mnemonic = .ASL ∧ q = aluAsl (operandByte i.operand s)) ∨
      (i.mnemonic = .LSR ∧ q = aluLsr (operandByte i.operand s)) ∨
      (i.mnemonic = .ROL ∧ q = aluRol (operandByte i.operand s) (s.flag .C)) ∨
      (i.mnemonic = .ROR ∧ q = aluRor (operandByte i.operand s) (s.flag .C))) :
    work i s = setCNZ q (writeResult q.r (readOperand (resolve i.operand (start s))).2) := by
  obtain ⟨d, hd⟩ := readOperand_resolve_st i s
  rcases h with ⟨h, rfl⟩ | ⟨h, rfl⟩ | ⟨h, rfl⟩ | ⟨h, rfl⟩
  · simp [work, h, handler, doAsl, readOperand_fst]
  · simp [work, h, handler, doLsr, readOperand_fst]
  · simp [work, h, handler, doRol, readOperand_fst, hd]
  · simp [work, h, handler, doRor, readOperand_fst, hd]

/-- No shift or rotate is mapped with a mode that holds its operand byte or has none (30_encoding.md R86). -/
theorem mode_of_shift {i : Instr} (h : i.mnemonic ∈ [.ASL, .LSR, .ROL, .ROR]) : i.mode ≠ .imp ∧ i.mode ≠ .imm := by
  cases i <;> simp [Instr.mnemonic] at h <;> exact ⟨Mode.noConfusion, Mode.noConfusion⟩

section

variable {i : Instr} {s : State} {q : Carried}
  (hw : work i s = setCNZ q (writeResult q.r (readOperand (resolve i.operand (start s))).2))
include hw

/-- In Accumulator mode the result goes to A. -/
theorem work_shift_acc_st (hacc : i.mode = .acc) :
    ∃ d, (work i s).st =
      (((s.setPC (nextPC i s)).setDataBus d).setA q.r).setP (setNZ q.r (setFlag .C q.cout s.p)) := by
  obtain ⟨d, hd⟩ := readOperand_resolve_st i s
  have hmode : (readOperand (resolve i.operand (start s))).2.mode = .acc := by
    rwa [readOperand_mode, resolve_mode]
  rw [hw, setCNZ_st, writeResult_acc _ hmode, Work.upd_st, hd]
  exact ⟨d, rfl⟩

/-- In a memory mode it goes to the effective address, which the operand read leaves as the resolver delivered it. -/
theorem work_shift_mem_st {ea : Word} (hacc : i.mode ≠ .acc) (hea : effectiveAddress i.operand s = some ea) :
    (work i s).st =
      (((s.setPC (nextPC i s)).store ea q.r).setDataBus q.r).setP (setNZ q.r (setFlag .C q.cout s.p)) := by
  obtain ⟨d, hd⟩ := readOperand_resolve_st i s
  have hmode : (readOperand (resolve i.operand (start s))).2.mode ≠ .acc := by
    rwa [readOperand_mode, resolve_mode]
  have htarget : (readOperand (resolve i.operand (start s))).2.target = ea := by
    rw [Work.target, readOperand_ea]
    exact congrArg (Option.getD · 0x0000) hea
  rw [hw, setCNZ_st, writeResult_mem _ hmode, Work.write_st, htarget, hd]
  rfl

/-- A shift or rotate that ends in the shared shape completes as R210 says, whatever its result. -/
theorem shiftCompletes (hb : OnArrayBus s) (hm : Memory.wf s.mem) (hi : i.mnemonic ∈ [.ASL, .LSR, .ROL, .ROR]) :
    ShiftCompletes i s q := by
  have hrefusal : (work i s).refusal = none := by
    rw [hw, setCNZ_refusal, writeResult_refusal, readOperand_refusal, resolve_refusal, start_refusal]
  unfold ShiftCompletes
  by_cases hacc : i.mode = .acc
  · rw [if_pos hacc]
    obtain ⟨d, hst⟩ := work_shift_acc_st hw hacc
    exact completes_of_work_st hb hrefusal hst fun _ =>
      ⟨⟨rfl, rfl, rfl, rfl, rfl⟩, flagsBecome_carried rfl, fun _ => rfl⟩
  · rw [if_neg hacc]
    obtain ⟨himp, himm⟩ := mode_of_shift hi
    obtain ⟨ea, hea, -, -⟩ := exists_ea s ⟨himp, hacc, himm⟩
    exact ⟨ea, hea, completes_of_work_st hb hrefusal (work_shift_mem_st hw hacc hea) fun _ =>
      ⟨⟨rfl, rfl, rfl, rfl, rfl⟩, flagsBecome_carried rfl, memoryStored_store (s := s) ea q.r hm⟩⟩

end

/-- C, Z and N are written alike in all modes. -/
theorem ShiftCompletes.flagsBecome {i : Instr} {s t : State} {q : Carried} (h : ShiftCompletes i s q)
    (ht : exec i s = .next t) : FlagsBecome s t ((.C, q.cout) :: nz q.r) := by
  unfold ShiftCompletes at h
  split at h
  · obtain ⟨u, hu, -, hflags, -⟩ := h
    cases hu.symm.trans ht
    exact hflags
  · obtain ⟨-, -, u, hu, -, hflags, -⟩ := h
    cases hu.symm.trans ht
    exact hflags

/-- N is bit 7 of the result. -/
theorem ShiftCompletes.flag_N {i : Instr} {s t : State} {q : Carried} (h : ShiftCompletes i s q)
    (ht : exec i s = .next t) : t.flag .N = q.r.getLsbD 7 :=
  h.flagsBecome ht .N

/-! ## ASL and LSR -/

/-- Settles O45: both end in the shared shape, and LSR, a rotate of carry 0, brings that 0 into bit 7. -/
theorem shiftsGoToAOrMemory : Obligations.ShiftsGoToAOrMemory := by
  refine ⟨by decide, by decide, fun i s hb hm => ⟨fun h => ?asl, fun h => ?lsr⟩⟩
  case asl => exact shiftCompletes (work_shift (.inl ⟨h, rfl⟩)) hb hm (by simp [h])
  case lsr =>
    have hshift := shiftCompletes (work_shift (.inr (.inl ⟨h, rfl⟩))) hb hm (by simp [h])
    refine ⟨hshift, fun t ht => ?_⟩
    rw [hshift.flag_N ht, aluLsr_eq_aluRor]
    exact aluRor_r_getLsbD _ false (by decide)

/-! ## The nine-bit rotate -/

/-- Byte and carry as nine bits, the carry on top. -/
def Carried.bit (q : Carried) (k : Nat) : Bool := if k = 8 then q.cout else q.r.getLsbD k

theorem Carried.bit_eight (q : Carried) : q.bit 8 = q.cout := rfl

theorem Carried.bit_of_lt (q : Carried) {k : Nat} (hk : k < 8) : q.bit k = q.r.getLsbD k := if_neg (by omega)

/-- The nine bits determine byte and carry. -/
theorem Carried.eq_of_bit_eq {q q' : Carried} (h : ∀ k < 9, q.bit k = q'.bit k) : q = q' := by
  have hr : q.r = q'.r := BitVec.eq_of_getLsbD_eq fun k hk => by
    rw [← q.bit_of_lt hk, ← q'.bit_of_lt hk]
    exact h k (by omega)
  have hcout : q.cout = q'.cout := h 8 (by decide)
  cases q
  cases q'
  rw [Carried.mk.injEq]
  exact ⟨hr, hcout⟩

/-- ROL moves each of the nine bits up by one place, and the top one, the carry, to the bottom (R113). -/
theorem aluRol_bit (q : Carried) {k : Nat} (hk : k < 9) : (aluRol q.r q.cout).bit k = q.bit ((k + 8) % 9) := by
  obtain rfl | rfl | ⟨h0, h8⟩ : k = 8 ∨ k = 0 ∨ 0 < k ∧ k < 8 := by omega
  · rfl
  · rw [Carried.bit_of_lt _ (by decide), aluRol_r_getLsbD _ _ (by decide), if_pos rfl, Carried.bit_eight]
  · have hfrom : (k + 8) % 9 = k - 1 := by omega
    rw [Carried.bit_of_lt _ h8, aluRol_r_getLsbD _ _ h8, if_neg (by omega), hfrom, Carried.bit_of_lt _ (by omega)]

/-- After `n` rotations each bit comes from `n` places below, around the nine. -/
theorem iterate_aluRol_bit (n : Nat) (q : Carried) {k : Nat} (hk : k < 9) :
    ((fun q : Carried => aluRol q.r q.cout)^[n] q).bit k = q.bit ((k + 8 * n) % 9) := by
  induction n generalizing k with
  | zero => rw [Function.iterate_zero_apply, Nat.mul_zero, Nat.add_zero, Nat.mod_eq_of_lt hk]
  | succ n ih =>
    have hsum : ((k + 8) % 9 + 8 * n) % 9 = (k + 8 * (n + 1)) % 9 := by omega
    rw [Function.iterate_succ_apply', aluRol_bit _ hk, ih (Nat.mod_lt _ (by decide)), hsum]

/-- Nine rotations bring each bit back to its place. -/
theorem iterate_nine_aluRol (q : Carried) : (fun q : Carried => aluRol q.r q.cout)^[9] q = q :=
  Carried.eq_of_bit_eq fun k hk => by
    have hback : (k + 8 * 9) % 9 = k := by omega
    rw [iterate_aluRol_bit 9 q hk, hback]

/-! ## ROL and ROR -/

/-- Settles O46: both end in the shared shape, ROR brings the incoming carry into bit 7, and ROL moves nine bits in a
circle. -/
theorem rotatesGoThroughTheCarry : Obligations.RotatesGoThroughTheCarry := by
  refine ⟨by decide, by decide, fun i s hb hm => ⟨fun h => ?rol, fun h => ?ror⟩, iterate_nine_aluRol⟩
  case rol => exact shiftCompletes (work_shift (.inr (.inr (.inl ⟨h, rfl⟩)))) hb hm (by simp [h])
  case ror =>
    have hshift := shiftCompletes (work_shift (.inr (.inr (.inr ⟨h, rfl⟩)))) hb hm (by simp [h])
    refine ⟨hshift, fun t ht => ?_⟩
    rw [hshift.flag_N ht]
    exact aluRor_r_getLsbD _ _ (by decide)

end Sys2Proof.Machine
end

section
/-! SUPPORT. Control transfer (45_control_flow.md): the branches, JMP, and the subroutine call with its return. -/

namespace Sys2Proof.Machine

/-! ## Branches -/

/-- The instructions with a branch condition are in Relative mode and end with `branch` on it; the resolver does not
change the flags (R220 to R228). -/
theorem work_branch {i : Instr} {s : State} {taken : Bool} (h : branchCondition i.mnemonic s = some taken) :
    ∃ d, i.operand = .rel d ∧ work i s = branch taken (resolve (.rel d) (start s)) := by
  cases i
  case bcc d | bcs d | beq d | bne d | bmi d | bpl d | bvc d | bvs d =>
    obtain rfl := Option.some.inj h
    exact ⟨d, rfl, rfl⟩
  all_goals cases h

/-- A branch writes PC and, in reading its displacement, the data latch (R220). -/
theorem branch_resolve_st (taken : Bool) (d : Byte) (s : State) :
    (branch taken (resolve (.rel d) (start s))).st =
      (s.setPC (if taken then s.pc + 1 + sext16 d else s.pc + 1)).setDataBus d := by
  rw [branch_st]
  cases taken <;> rfl

/-- Settles O47: the handler is `branch` on the condition, after the resolver delivered the target and its page test. -/
theorem branchesFollowTheirFlag : Obligations.BranchesFollowTheirFlag := by
  refine ⟨by decide, by decide, by decide, by decide, by decide, by decide, by decide, by decide,
    fun i s taken h hb => ?_⟩
  obtain ⟨d, hd, hw⟩ := work_branch h
  have hrefusal : (work i s).refusal = none := by rw [hw, branch_refusal, resolve_refusal, start_refusal]
  refine ⟨d, hd, ⟨_, effectiveAddress_rel d s, rfl, ?completes, ?extra⟩, ?log⟩
  case completes =>
    exact completes_of_work_st hb hrefusal ((congrArg Work.st hw).trans (branch_resolve_st taken d s)) fun _ =>
      ⟨⟨rfl, rfl, rfl, rfl, rfl⟩, rfl, fun _ => rfl⟩
  case extra => rw [hw, branch_extra]; rfl
  case log => rw [hw, branch_log]; rfl

/-! ## JMP -/

/-- JMP puts the effective address into PC and makes no access after the resolver's (R229). -/
theorem work_jmp {i : Instr} {s : State} {ea : Word} (h : i.mnemonic = .JMP)
    (htarget : (resolve i.operand (start s)).target = ea) :
    work i s = (resolve i.operand (start s)).upd (State.setPC ea) := by
  rw [work, h, handler, doJmp, htarget]

/-- Settles O48: the mode of JMP yields an effective address, and its handler only writes that to PC. -/
theorem jmpGoesToTheAddress : Obligations.JmpGoesToTheAddress := by
  refine ⟨by decide, fun i s h hb => ?_⟩
  obtain ⟨ea, hea, -, htarget⟩ := exists_ea s (mode_of_mnemonic (i := i) (by simp [h]))
  obtain ⟨d, hd⟩ := resolve_st i.operand (start s)
  have hw := work_jmp h htarget
  have hrefusal : (work i s).refusal = none := by rw [hw, Work.upd_refusal, resolve_refusal, start_refusal]
  refine ⟨ea, hea, ?abs, by rw [hw, Work.upd_log], ?completes⟩
  case abs =>
    rintro a rfl
    exact Option.some.inj (hea.symm.trans (effectiveAddress_abs a s))
  case completes =>
    have hst : (work i s).st = ((s.setPC (nextPC i s)).setDataBus d).setPC ea := by
      rw [hw, Work.upd_st, hd]
      rfl
    exact completes_of_work_st hb hrefusal hst fun _ => ⟨by simp [RegistersAre], by simp, fun _ => rfl⟩

/-! ## JSR -/

/-- One store more, at an address not stored to before: the list may follow the order of the stores. -/
theorem MemoryStored.store_append {s t : State} {l : List (Word × Byte)} (h : MemoryStored s t l) {c : Word} (v : Byte)
    (hw : Memory.wf t.mem) (hc : ∀ e ∈ l, c ≠ e.1) : MemoryStored s (t.store c v) (l ++ [(c, v)]) := by
  intro b
  rw [State.store_byteAt c b v hw, List.lookup_append, lookup_stored, h b]
  by_cases hb : b = c
  · subst hb
    have hnone : l.lookup b = none := List.lookup_eq_none_iff.2 fun e he => bne_iff_ne.2 (hc e he)
    simp [hnone]
  · simp [hb]

/-- JSR pushes the address of its third byte, one less than the PC the resolver leaves, and jumps to its operand
(R230). -/
theorem work_jsr (a : Word) (s : State) :
    work (.jsr a) s = ((resolve (.abs a) (start s)).push16 (s.pc + 1)).upd (State.setPC a) := by
  have hret : (resolve (.abs a) (start s)).st.pc - 1 = s.pc + 1 := BitVec.add_sub_cancel (s.pc + 1) 1
  rw [← hret]
  rfl

/-- The state JSR leaves: two bytes on the stack, SP down by two, PC at the operand (R230). -/
theorem work_jsr_st (a : Word) (s : State) :
    (work (.jsr a) s).st = ((((s.store (stackAddr s.sp) (hi (s.pc + 1))).store (stackAddr (s.sp - 1))
      (lo (s.pc + 1))).setDataBus (lo (s.pc + 1))).setSP (s.sp - 2)).setPC a := by
  obtain ⟨d, hd⟩ := resolve_st (.abs a) (start s)
  rw [work_jsr, Work.upd_st, Work.push16_st, hd]
  simp [State.setPC, State.setDataBus, State.setSP, State.store, State.setMem]

/-- Settles O49: the resolver reads the two operand bytes, and the handler is one 16-bit push and a jump. -/
theorem jsrPushesTheLastByteAddress : Obligations.JsrPushesTheLastByteAddress := by
  refine ⟨by decide, fun a s hb hm => ⟨?completes, ?log⟩⟩
  case completes =>
    have hrefusal : (work (.jsr a) s).refusal = none := by
      rw [work_jsr, Work.upd_refusal, Work.push16_refusal, resolve_refusal, start_refusal]
    have hstored := (memoryStored_store (stackAddr s.sp) (hi (s.pc + 1)) hm).store_append
      (c := stackAddr (s.sp - 1)) (lo (s.pc + 1)) (State.store_wf _ _ hm) (by simp)
    exact completes_of_work_st hb hrefusal (work_jsr_st a s) fun _ =>
      ⟨by simp [RegistersAre], by simp, fun b => hstored b⟩
  case log =>
    rw [work_jsr, Work.upd_log, Work.push16_log]
    rfl

/-! ## RTS -/

/-- RTS takes PC from the two pulled bytes and adds the 1 that JSR left out (R231). -/
theorem work_rts_st (s : State) :
    (work .rts s).st = ((s.setSP (s.sp + 2)).setDataBus (s.byteAt (stackAddr (s.sp + 2)))).setPC
      (join (s.byteAt (stackAddr (s.sp + 2))) (s.byteAt (stackAddr (s.sp + 1))) + 1) := by
  have hw : work .rts s = (start s).pull16.2.upd (State.setPC ((start s).pull16.1 + 1)) := rfl
  rw [hw, Work.upd_st, Work.pull16_st, Work.pull16_fst, start_st]

/-- Settles O50: the handler is one 16-bit pull and a jump to the address after the one pulled. -/
theorem rtsReturnsToThePulledAddressPlusOne : Obligations.RtsReturnsToThePulledAddressPlusOne :=
  ⟨by decide, fun s hb => completes_of_work_st hb (by simp [work_refusal, Instr.mnemonic]) (work_rts_st s) fun _ =>
    ⟨⟨rfl, rfl, rfl, rfl, rfl⟩, rfl, fun _ => rfl⟩⟩

/-! ## JSR, then RTS -/

/-- The two bytes a 16-bit push left join to the word pushed, where a 16-bit pull finds them. -/
theorem MemoryStored.join_pulled {s t : State} {sp : Byte} {v : Word}
    (h : MemoryStored s t [(stackAddr sp, hi v), (stackAddr (sp - 1), lo v)]) :
    join (t.byteAt (stackAddr (sp - 2 + 2))) (t.byteAt (stackAddr (sp - 2 + 1))) = v := by
  have hhigh : sp - 2 + 2 = sp := BitVec.sub_add_cancel sp 2
  have hlow : sp - 2 + 1 = sp - 1 := by bv_omega
  have hne : stackAddr (sp - 1) ≠ stackAddr sp := by simp
  rw [hhigh, hlow, h, h, lookup_stored, if_pos rfl, lookup_stored, if_neg hne, lookup_stored, if_pos rfl]
  exact Laws.join_hi_lo v

/-- Settles O57: RTS pulls the word that JSR pushed, and both move SP by two. -/
theorem rtsReturnsPastTheJsr : Obligations.RtsReturnsPastTheJsr := by
  intro a s t u hb hm ht hbu hsp hmem
  obtain ⟨⟨t', ht', ⟨-, -, -, hspt, -⟩, -, hstored⟩, -⟩ := jsrPushesTheLastByteAddress.2 a s hb hm
  obtain rfl : t' = t := Host.Outcome.next.inj (ht'.symm.trans ht)
  obtain ⟨v, hv, ⟨-, -, -, hspv, hpc⟩, hp, hsame⟩ := rtsReturnsToThePulledAddressPlusOne.2 u hbu
  have hut := State.byteAt_congr hmem
  rw [hsp, hspt] at hspv hpc
  rw [hut, hut, hstored.join_pulled] at hpc
  refine ⟨v, hv, hpc.trans ?_, hspv.trans (BitVec.sub_add_cancel s.sp 2), hp, fun b => (hsame b).trans (hut b)⟩
  exact BitVec.add_assoc s.pc 1 1

end Sys2Proof.Machine
end

section
/-! SUPPORT. Stack, flag and system instructions (46_stack_flags_system.md): the pushes and pulls of one byte, the
instructions that write one flag, then the software trap and the return from it. -/

namespace Sys2Proof.Machine

/-! ## PHA, PHP and PLA -/

/-- An instruction that only pushes one byte completes with the byte in the stack cell SP pointed at and SP one lower
(10_state.md R26). -/
theorem completes_push {i : Instr} {s : State} {v : Byte} (hb : OnArrayBus s) (hm : Memory.wf s.mem)
    (hw : work i s = (start s).push v) :
    Completes i s (fun t => RegistersAre t s.a s.x s.y (s.sp - 1) s.pc ∧ t.p = s.p ∧
      MemoryStored s t [(stackAddr s.sp, v)]) :=
  have hstored := memoryStored_store (stackAddr s.sp) v hm
  completes_of_work_st hb (congrArg Work.refusal hw) ((congrArg Work.st hw).trans (Work.push_st (start s) v)) fun _ =>
    ⟨⟨rfl, rfl, rfl, rfl, rfl⟩, rfl, fun b => hstored b⟩

/-- Settles O51: PHA and PHP are one push, PLA is one pull into A that ends with `SetNZ`. -/
theorem stackInstructionsPushAndPull : Obligations.StackInstructionsPushAndPull := by
  refine ⟨by decide, by decide, by decide, stackAddr_toNat, fun s hb hm => ⟨?pha, ?php, ?pla⟩⟩
  case pha | php => exact completes_push hb hm rfl
  case pla => exact completes_setNZ hb rfl rfl ⟨rfl, rfl, rfl, rfl, rfl⟩ rfl rfl

/-! ## PLP -/

/-- The six flags taken from a pulled byte are its bits, and Break and Unused stay (R253). -/
theorem flagsBecome_pulled {s t : State} {v : Byte} (h : t.p = setPulledFlags v s.p) :
    FlagsBecome s t [(.C, v.getLsbD 0), (.Z, v.getLsbD 1), (.I, v.getLsbD 2), (.D, v.getLsbD 3), (.V, v.getLsbD 6),
      (.N, v.getLsbD 7)] := by
  intro f
  rw [State.flag, h, getFlag_setPulledFlags]
  cases f <;> rfl

/-- Where Unused is 1 and Break is 0, they stay so, and every other bit is that of the pulled byte (R253, with
10_state.md R30, R31). -/
theorem setPulledFlags_eq_mask {p : Byte} (v : Byte) (hunused : getFlag .U p = true) (hbreak : getFlag .B p = false) :
    setPulledFlags v p = (v &&& 0xCF) ||| 0x20 := by
  apply status_ext
  intro f
  rw [getFlag_setPulledFlags]
  cases f
  case U => rw [if_pos (.inr rfl), hunused]; simp [getFlag, Flag.bit]
  case B => rw [if_pos (.inl rfl), hbreak]; simp [getFlag, Flag.bit]
  all_goals simp [getFlag, Flag.bit]

/-- Settles O52: the handler is one pull and the six calls of the flag updater. -/
theorem plpTakesSixFlags : Obligations.PlpTakesSixFlags :=
  ⟨by decide, fun s hb => completes_of_work_st hb rfl rfl fun _ =>
    ⟨⟨rfl, rfl, rfl, rfl, rfl⟩, flagsBecome_pulled rfl,
      fun hs => setPulledFlags_eq_mask _ hs.unused hs.noBreak, fun _ => rfl⟩⟩

/-! ## The flag instructions and NOP -/

/-- One call of the flag updater, for any flag but Unused (40_flag_update_and_alu.md R100). -/
theorem flagsBecome_setFlag {s t : State} {f : Flag} {c : Bool} (hf : f ≠ .U) (h : t.p = setFlag f c s.p) :
    FlagsBecome s t [(f, c)] := by
  intro g
  rw [State.flag, h, getFlag_setFlag]
  by_cases hg : g = f
  · simp [hg, hf]
  · simp [hg, List.lookup, beq_eq_false_iff_ne.2 hg, State.flag]

/-- An instruction that only calls the flag updater completes with that one flag changed. -/
theorem completes_setFlag {i : Instr} {s : State} {f : Flag} {c : Bool} (hb : OnArrayBus s) (hf : f ≠ .U)
    (hw : work i s = (start s).setFlag f c) :
    Completes i s (fun t => RegistersAre t s.a s.x s.y s.sp s.pc ∧ FlagsBecome s t [(f, c)] ∧ MemorySame s t) :=
  completes_of_work_st hb (congrArg Work.refusal hw) (congrArg Work.st hw) fun _ =>
    ⟨⟨rfl, rfl, rfl, rfl, rfl⟩, flagsBecome_setFlag hf rfl, fun _ => rfl⟩

/-- Settles O53: each of the seven is one call of the flag updater, and the handler of NOP is the identity. -/
theorem flagInstructionsAndNop : Obligations.FlagInstructionsAndNop := by
  refine ⟨by decide, by decide, by decide, by decide, by decide, by decide, by decide, by decide,
    fun s hb => ⟨fun i f c h => ?_, exec_next hb rfl⟩⟩
  simp only [List.mem_cons, List.not_mem_nil, or_false, Prod.mk.injEq] at h
  rcases h with ⟨rfl, rfl, rfl⟩ | ⟨rfl, rfl, rfl⟩ | ⟨rfl, rfl, rfl⟩ | ⟨rfl, rfl, rfl⟩ | ⟨rfl, rfl, rfl⟩ |
    ⟨rfl, rfl, rfl⟩ | ⟨rfl, rfl, rfl⟩
  all_goals exact completes_setFlag hb (by decide) rfl

/-! ## BRK -/

/-- The three pushes of the trap go to three different cells, so each byte is found where it was pushed (R262). -/
theorem memoryStored_trapFrame (ret : Word) {s : State} (hm : Memory.wf s.mem) :
    MemoryStored s (trapFrame ret s) [(stackAddr s.sp, hi ret), (stackAddr (s.sp - 1), lo ret),
      (stackAddr (s.sp - 2), pushedStatus s.p)] := by
  have hword := (memoryStored_store (stackAddr s.sp) (hi ret) hm).store_append (c := stackAddr (s.sp - 1)) (lo ret)
    (State.store_wf _ _ hm) (by simp)
  exact hword.store_append (c := stackAddr (s.sp - 2)) (pushedStatus s.p)
    (State.store_wf _ _ (State.store_wf _ _ hm)) (by simp)

/-- The working copy of BRK: the trap is taken from the entry state, with PC one past the byte after the opcode to
return to (R262). -/
theorem work_brk (s : State) : work .brk s = (start s).takeTrap (s.pc + 1) brkVector := rfl

/-- Settles O54: the trap stores its three bytes, sets I, and reads the vector from memory as it was on entry. -/
theorem brkTakesTheTrap : Obligations.BrkTakesTheTrap := by
  refine ⟨by decide, fun s hb hm => ?_⟩
  have hhigh : brkVector + 1 = 0xFFFF := rfl
  have hlow : brkVector = 0xFFFE := rfl
  obtain ⟨d, hst⟩ := (start s).takeTrap_st (s.pc + 1)
  have hlog := (start s).takeTrap_log (s.pc + 1)
  have hstored := memoryStored_trapFrame (s.pc + 1) hm
  rw [← work_brk, hhigh, hlow] at hst hlog
  have hrefusal : (work .brk s).refusal = none := by simp [work_refusal, Instr.mnemonic]
  exact ⟨completes_of_work_st hb hrefusal hst fun _ =>
    ⟨by simp [RegistersAre, trapFrame], flagsBecome_setFlag (by decide) rfl, fun b => hstored b⟩, hlog⟩

/-! ## RTI -/

/-- Settles O55: the handler is the return from the trap, from the entry state. -/
theorem rtiRestoresFlagsAndAddress : Obligations.RtiRestoresFlagsAndAddress := by
  refine ⟨by decide, fun s hb => ?_⟩
  obtain ⟨d, hst⟩ := (start s).returnFromTrap_st
  exact completes_of_work_st hb (by simp [work_refusal, Instr.mnemonic]) hst fun _ =>
    ⟨⟨rfl, rfl, rfl, rfl, rfl⟩, flagsBecome_pulled rfl, fun _ => rfl⟩

end Sys2Proof.Machine
end

section
/-! SUPPORT. The step as fetch, decode and execute (47_fetch_decode_step.md): which instruction stands at PC, what the
step answers with and without one (R281 to R286, R294, R295), and the cycle count of a step (R296). -/

namespace Sys2Proof.Machine

/-! ## Decoding at PC -/

theorem encode_length_le (i : Instr) : (encode i).length ≤ 3 := by
  suffices i.operand.bytes.length ≤ 2 from Nat.succ_le_succ this
  cases i.operand <;> simp [Operand.bytes]

/-- The decoder sees the bytes that follow the opcode in memory, modulo 65536 (30_encoding.md R80). -/
theorem fetchWindow_getElem? (s : State) {n : Nat} (hn : n < 3) :
    (fetchWindow s)[n]? = some (s.byteAt (s.pc + BitVec.ofNat 16 n)) := by
  interval_cases n <;> simp [fetchWindow]

/-- An instruction's bytes that stand at PC are the first of those the decoder sees. -/
theorem HoldsAtPC.encode_isPrefix {s : State} {i : Instr} (h : HoldsAtPC s i) : encode i <+: fetchWindow s := by
  rw [List.prefix_iff_getElem?]
  intro n hn
  have hbyte := h n _ (List.getElem?_eq_getElem hn)
  rw [fetchWindow_getElem? s (hn.trans_le (encode_length_le i)), hbyte]

/-- The bytes at PC of an instruction of the machine decode to it, whatever follows them (O1). -/
theorem HoldsAtPC.decodeAt_eq {s : State} {i : Instr} (h : HoldsAtPC s i)
    (hi : i.wellFormed s.cfg.tableProfile = true) : decodeAt s = some i := by
  obtain ⟨rest, hrest⟩ := h.encode_isPrefix
  rw [decodeAt, ← hrest, Laws.decodeOfEncodeIsTheInstruction _ i rest hi]
  rfl

/-! ## What a step answers -/

/-- With an instruction at PC the step is that instruction, run on what the fetch unit leaves (R286). -/
theorem step_of_decodeAt {s : State} {i : Instr} (hpc : rejects s.cfg s.pc = false) (hi : decodeAt s = some i) :
    step s = exec i (fetchUnit s) := by
  simp [step, hpc, hi]

/-- Without a table entry for the byte at PC the step ends at once (R283). -/
theorem step_of_lookup_none {s : State} (hpc : rejects s.cfg s.pc = false)
    (hop : lookup s.cfg.tableProfile (s.byteAt s.pc) = none) :
    step s = .fault (.decodeError s.pc (s.byteAt s.pc)) := by
  simp [step, hpc, decodeAt_eq_none hop, State.opcodeAtPC]

/-- On the array bus an instruction with a meaning completes. -/
theorem exists_exec_next (i : Instr) {s : State} (hb : OnArrayBus s) (hd : DecimalAllowed s) :
    ∃ t, exec i s = .next t :=
  ⟨_, exec_next hb (by rw [work_refusal, if_neg fun h => h.2 hd])⟩

/-- Settles O6: the instruction whose bytes stand at PC is the one the round trip of O1 gives back. -/
theorem stepRunsTheDecodedInstruction : Obligations.StepRunsTheDecodedInstruction := fun _ _ hpc =>
  ⟨step_of_decodeAt hpc, fun hi hbytes => hbytes.decodeAt_eq hi, rfl⟩

/-- Settles O7: no instruction decodes, so the fault leaves the state, and only the opcode read is listed. -/
theorem unmappedOpcodeIsADecodeError : Obligations.UnmappedOpcodeIsADecodeError := by
  intro s hpc hop
  have hstep := step_of_lookup_none hpc hop
  refine ⟨hstep, ?_, ?_⟩
  · simp only [stepCommand, hstep]
  · simp only [stepAccesses, decodeAt_eq_none hop]
    rfl

/-- Settles O8: the table either has a row for the byte at PC, whose instruction has a meaning and is not rejected, or
it has none. -/
theorem everyStepOnTheArrayAnswers : Obligations.EveryStepOnTheArrayAnswers := by
  intro s hb hd
  have hpc := rejects_nil hb s.pc
  cases hop : lookup s.cfg.tableProfile (s.byteAt s.pc) with
  | none => exact .inr ⟨rfl, step_of_lookup_none hpc hop⟩
  | some r =>
    refine .inl ⟨rfl, ?_⟩
    rw [step_of_decodeAt hpc (decodeAt_eq_fill hop)]
    exact exists_exec_next _ hb (.inl hd)

/-! ## The cycle count of a step -/

/-- The row of an instruction's opcode, filled in with operand bytes, is the instruction. -/
theorem exists_row_fill (i : Instr) :
    ∃ r ∈ OpcodeTable.rows, findRow i.opcode = some r ∧ ∃ b c, r.form.fill b c = i := by
  obtain ⟨r, hr, -, htake⟩ := Laws.TableEntry.all i
  obtain ⟨b, c, hfill, -⟩ := Laws.take_eq_instr (htake [])
  exact ⟨r, List.mem_of_find?_eq_some hr, hr, b, c, hfill⟩

/-- Row by row, the table charges a page crossing to the read class in the three modes with a page test (R296). -/
theorem rows_pageCrossPenalty :
    ∀ r ∈ OpcodeTable.rows, ∀ b c, r.pageCrossPenalty = chargesPageCross (r.form.fill b c) := by
  simp only [OpcodeTable.rows, OpcodeTable.row0x, OpcodeTable.row1x, OpcodeTable.row2x, OpcodeTable.row3x,
    OpcodeTable.row4x, OpcodeTable.row5x, OpcodeTable.row6x, OpcodeTable.row7x, OpcodeTable.row8x, OpcodeTable.row9x,
    OpcodeTable.rowAx, OpcodeTable.rowBx, OpcodeTable.rowCx, OpcodeTable.rowDx, OpcodeTable.rowEx, OpcodeTable.rowFx,
    List.forall_mem_append, List.forall_mem_cons, List.not_mem_nil, false_imp_iff, implies_true, and_true]
  and_intros
  all_goals exact fun _ _ => rfl

theorem pageCrossPenalty_opcode (i : Instr) : pageCrossPenalty i.opcode = chargesPageCross i := by
  obtain ⟨r, hmem, hrow, b, c, rfl⟩ := exists_row_fill i
  simp only [pageCrossPenalty, hrow, rows_pageCrossPenalty r hmem b c]

/-- No handler changes the page-crossing signal. -/
theorem pageCross_kept (c : Bool) : Work.Kept (fun w => w.pageCross = c) where
  read _ _ h := h
  write _ _ _ h := h
  same _ _ hs h := hs.pageCross.trans h

/-- The signal an instruction ends with is the resolver's (41_address_resolver.md R146). -/
theorem work_pageCross (i : Instr) (s : State) : (work i s).pageCross = (resolve i.operand (start s)).pageCross :=
  (pageCross_kept _).handler i.mnemonic rfl

/-- Only the handlers of the branches report extra cycles (R296). -/
theorem handler_extra_of_not_branch {m : Mnemonic} {s : State} (h : branchCondition m s = none) (w : Work) :
    (handler m w).extra = w.extra := by
  cases m
  case BCC | BCS | BEQ | BNE | BMI | BPL | BVC | BVS => cases h
  case LDA | LDX | LDY | AND | ORA | EOR | CMP | CPX | CPY => exact readOperand_extra w
  case ADC | SBC => exact (decimalGuard_extra _).trans (readOperand_extra w)
  case ASL | LSR | ROL | ROR => exact (writeResult_extra _ _).trans (readOperand_extra w)
  case JSR => rw [handler, doJsr, Work.upd_extra, Work.push16_extra]
  case RTS => rw [handler, doRts, Work.upd_extra, Work.pull16_extra]
  case BRK => exact (w.takeTrap_rest _ _).2.1
  case RTI => exact w.returnFromTrap_rest.2.1
  all_goals rfl

/-- The extra cycles of an instruction: those of a taken branch, and none otherwise (45_control_flow.md R220). -/
theorem work_extra (i : Instr) (s : State) :
    (work i s).extra = if branchCondition i.mnemonic s = some true then
      1 + (resolve i.operand (start s)).pageCross.toNat else 0 := by
  cases h : branchCondition i.mnemonic s with
  | none => simp [work, handler_extra_of_not_branch h, resolve_extra]
  | some taken =>
    obtain ⟨d, hd, hw⟩ := work_branch h
    simp [hw, hd, branch_extra, resolve_extra]

/-- Settles O34: the page-crossing term and the extra cycles are read off the working copy the instruction ends with. -/
theorem stepCyclesAddPageAndBranchExtras : Obligations.StepCyclesAddPageAndBranchExtras := by
  intro table s i hi cross
  have hcycles : stepCycles table s = some (table i.opcode + (chargesPageCross i && cross).toNat +
      if branchCondition i.mnemonic (fetchUnit s) = some true then 1 + cross.toNat else 0) := by
    simp only [stepCycles, hi, Option.map_some, cyclesOf, pageCrossPenalty_opcode, work_pageCross, work_extra, cross]
  rw [hcycles]
  cases chargesPageCross i <;> cases cross <;> rfl

end Sys2Proof.Machine
end

section
/-! SUPPORT. Rejected accesses and the software trap (60_exceptions.md): which access ends a step, the trap followed by
the return from it, and the mnemonic observer. -/

namespace Sys2Proof.Machine

/-! ## Rejected accesses -/

/-- Where ADC and SBC have a meaning, no instruction is refused. -/
theorem work_refusal_eq_none (i : Instr) {s : State} (hd : DecimalAllowed s) : (work i s).refusal = none := by
  rw [work_refusal, if_neg fun h => h.2 hd]

/-- The first of an instruction's accesses that the bus rejects makes it a fault that names the address (60_exceptions.md
R312). -/
theorem exec_addressingError {i : Instr} {s : State} {x : Access} (hd : DecimalAllowed s)
    (hx : (work i s).log.find? (fun y => rejects s.cfg y.addr) = some x) :
    exec i s = .fault (.addressingError (s.pc - 1) x.addr) := by
  simp [exec_eq_commit, commit, work_refusal_eq_none i hd, hx]

/-- An instruction none of whose accesses the bus rejects completes. -/
theorem exec_next_of_not_rejected {i : Instr} {s : State} (hd : DecimalAllowed s)
    (hx : ∀ x ∈ (work i s).log, rejects s.cfg x.addr = false) : ∃ t, exec i s = .next t :=
  ⟨_, (exec_eq_commit i s).trans (commit_next (work_refusal_eq_none i hd) hx)⟩

/-- The PC on entry, seen from the state after the fetch unit (47_fetch_decode_step.md R281). -/
theorem fetchUnit_pc_sub_one (s : State) : (fetchUnit s).pc - 1 = s.pc := BitVec.add_sub_cancel s.pc 1

/-- A rejected opcode read ends the step before anything else (60_exceptions.md R317). -/
theorem step_of_rejects_pc {s : State} (hpc : rejects s.cfg s.pc = true) :
    step s = .fault (.addressingError s.pc s.pc) := by
  simp [step, hpc]

/-- Without an instruction at PC the step ends after the opcode read (47_fetch_decode_step.md R283). -/
theorem step_of_decodeAt_none {s : State} (hpc : rejects s.cfg s.pc = false) (hi : decodeAt s = none) :
    step s = .fault (.decodeError s.pc s.opcodeAtPC) := by
  simp [step, hpc, hi]

theorem stepAccesses_of_decodeAt_none {s : State} (hi : decodeAt s = none) :
    stepAccesses s = [.read s.pc s.opcodeAtPC] := by
  simp [stepAccesses, hi]

theorem stepAccesses_of_decodeAt {s : State} {i : Instr} (hi : decodeAt s = some i) :
    stepAccesses s = .read s.pc s.opcodeAtPC :: (work i (fetchUnit s)).log := by
  simp [stepAccesses, hi]

/-- The first rejected access, the opcode read included, ends the step. -/
theorem step_addressingError {s : State} {x : Access} (hd : DecimalAllowed s)
    (hx : (stepAccesses s).find? (fun y => rejects s.cfg y.addr) = some x) :
    step s = .fault (.addressingError s.pc x.addr) := by
  cases hpc : rejects s.cfg s.pc with
  | true =>
    obtain rfl : Access.read s.pc s.opcodeAtPC = x := by simpa [stepAccesses, Access.addr, hpc] using hx
    exact step_of_rejects_pc hpc
  | false =>
    cases hi : decodeAt s with
    | none => simp [stepAccesses_of_decodeAt_none hi, Access.addr, hpc] at hx
    | some i =>
      have hlog : (work i (fetchUnit s)).log.find? (fun y => rejects s.cfg y.addr) = some x := by
        simpa [stepAccesses_of_decodeAt hi, Access.addr, hpc] using hx
      rw [step_of_decodeAt hpc hi, exec_addressingError (s := fetchUnit s) hd hlog, fetchUnit_pc_sub_one]

/-- A step none of whose accesses is rejected completes or ends on decoding. -/
theorem step_of_not_rejected {s : State} (hd : DecimalAllowed s)
    (hx : ∀ x ∈ stepAccesses s, rejects s.cfg x.addr = false) :
    (∃ t, step s = .next t) ∨ step s = .fault (.decodeError s.pc s.opcodeAtPC) := by
  have hpc : rejects s.cfg s.pc = false := hx _ List.mem_cons_self
  cases hi : decodeAt s with
  | none => exact .inr (step_of_decodeAt_none hpc hi)
  | some i =>
    rw [stepAccesses_of_decodeAt hi] at hx
    rw [step_of_decodeAt hpc hi]
    exact .inl (exec_next_of_not_rejected (s := fetchUnit s) hd fun x hmem => hx x (List.mem_cons_of_mem _ hmem))

/-- Settles O9: the commit faults on the first rejected access, and a fault leaves the state. -/
theorem rejectedAccessIsAnAddressingError : Obligations.RejectedAccessIsAnAddressingError := by
  refine fun s hd => ⟨fun x hx => ?_, fun hx pc addr h => ?_⟩
  · have hstep := step_addressingError (.inl hd) hx
    exact ⟨hstep, latchesAfterAStep.2.1 s _ hstep⟩
  · obtain ⟨t, ht⟩ | ht := step_of_not_rejected (.inl hd) hx
    · cases ht.symm.trans h
    · cases ht.symm.trans h

/-! ## BRK, then RTI -/

/-- The three pulls of the return find the status byte and the two halves of the return address where the trap pushed
them (60_exceptions.md R319, R320). -/
theorem MemoryStored.trap_pulled {s t : State} {sp status : Byte} {ret : Word}
    (h : MemoryStored s t [(stackAddr sp, hi ret), (stackAddr (sp - 1), lo ret), (stackAddr (sp - 2), status)]) :
    t.byteAt (stackAddr (sp - 3 + 1)) = status ∧
      join (t.byteAt (stackAddr (sp - 3 + 3))) (t.byteAt (stackAddr (sp - 3 + 2))) = ret := by
  have hstatus : sp - 3 + 1 = sp - 2 := by bv_omega
  have hlow : sp - 3 + 2 = sp - 1 := by bv_omega
  have hhigh : sp - 3 + 3 = sp := BitVec.sub_add_cancel sp 3
  rw [hstatus, hlow, hhigh, h, h, h]
  simp [lookup_stored, Laws.join_hi_lo]

/-- Taking the six flags from the pushed copy of a status byte restores it, where Break and Unused are already those of
the byte (46_stack_flags_system.md R263). -/
theorem eq_of_flagsBecome_pushed {u v : State} {p b : Byte} (hb : b = pushedStatus p)
    (h : FlagsBecome u v [(.C, b.getLsbD 0), (.Z, b.getLsbD 1), (.I, b.getLsbD 2), (.D, b.getLsbD 3),
      (.V, b.getLsbD 6), (.N, b.getLsbD 7)])
    (hunused : u.flag .U = getFlag .U p) (hbreak : u.flag .B = getFlag .B p) : v.p = p := by
  subst hb
  refine status_ext fun f => (h f).trans ?_
  cases f
  case U => exact hunused
  case B => exact hbreak
  case C => exact getFlag_pushedStatus .C p
  case Z => exact getFlag_pushedStatus .Z p
  case I => exact getFlag_pushedStatus .I p
  case D => exact getFlag_pushedStatus .D p
  case V => exact getFlag_pushedStatus .V p
  case N => exact getFlag_pushedStatus .N p

/-- Settles O56: RTI pulls the three bytes that BRK pushed; Break and Unused come from the invariant on both sides. -/
theorem rtiUndoesBrk : Obligations.RtiUndoesBrk := by
  intro s t u hb hs ht hu hbu hsp hmem
  obtain ⟨⟨t', ht', ⟨-, -, -, hspt, -⟩, -, hstored⟩, -⟩ := brkTakesTheTrap.2 s hb hs.canonical
  obtain rfl : t' = t := Host.Outcome.next.inj (ht'.symm.trans ht)
  obtain ⟨v, hv, ⟨-, -, -, hspv, hpc⟩, hflags, hsame⟩ := rtiRestoresFlagsAndAddress.2 u hbu
  obtain ⟨hstatus, hret⟩ := hstored.trap_pulled
  have hut := State.byteAt_congr hmem
  have hspu : u.sp = s.sp - 3 := hsp.trans hspt
  rw [← hut, ← hspu] at hstatus
  rw [← hut, ← hut, ← hspu] at hret
  refine ⟨v, hv, ?p, ?sp, hpc.trans hret, fun b => (hsame b).trans (hut b)⟩
  case p =>
    exact eq_of_flagsBecome_pushed hstatus hflags (hu.unused.trans hs.unused.symm) (hu.noBreak.trans hs.noBreak.symm)
  case sp => rw [hspv, hspu, BitVec.sub_add_cancel]

/-! ## The mnemonic observer -/

/-- The observer's row and the decoder's are one, and a row has one mnemonic whatever its operand bytes (R326). -/
theorem observedMnemonic_of_decodeAt {s t : State} {i : Instr} (hi : decodeAt s = some i) (hcfg : t.cfg = s.cfg)
    (hop : t.opcode = s.byteAt s.pc) : observedMnemonic t = some i.mnemonic := by
  cases hrow : lookup s.cfg.tableProfile (s.byteAt s.pc) with
  | none => cases (decodeAt_eq_none hrow).symm.trans hi
  | some r =>
    obtain rfl := Option.some.inj ((decodeAt_eq_fill hrow).symm.trans hi)
    obtain ⟨-, hmem, -, -⟩ := Laws.lookup_eq_some hrow
    have hmnemonic := (Laws.rows_sound r hmem (s.byteAt (s.pc + 1)) (s.byteAt (s.pc + 2))).2
    rw [observedMnemonic, hcfg, hop, hrow, Option.map_some, hmnemonic]

/-- Settles O59: a completed step leaves the opcode byte that it decoded on the latch, and the parameters as they were. -/
theorem mnemonicObserverFollowsTheLatch : Obligations.MnemonicObserverFollowsTheLatch := by
  refine ⟨fun s t i hi h => ?_, fun s => Option.map_eq_none_iff⟩
  obtain ⟨-, j, -, ht⟩ := step_eq_next h
  have hcfg : t.cfg = s.cfg := (exec_cfg ht).trans (fetchUnit_cfg s)
  have hop : t.opcode = s.byteAt s.pc := (exec_opcode ht).trans (fetchUnit_opcode s)
  exact observedMnemonic_of_decodeAt hi hcfg hop

end Sys2Proof.Machine
end

section
/-! SUPPORT. The command `reset` and the table of base cycles (70_reset_and_hazards.md). -/

namespace Sys2Proof.Machine

/-! ## Base cycles -/

/-- Row by row, the table's base cycles are those of the instruction's class and mode, whatever the operand bytes. -/
theorem rows_baseCycles (b c : Byte) : ∀ r ∈ OpcodeTable.rows,
    cyclesByClass (r.form.fill b c).mnemonic (r.form.fill b c).mode = some r.baseCycles := by
  simp only [OpcodeTable.rows, List.forall_mem_append]
  and_intros
  all_goals exact of_decide_eq_true rfl

/-- Settles O33: every instruction is made by the row of its opcode. -/
theorem baseCyclesFollowTheClassTable : Obligations.BaseCyclesFollowTheClassTable := by
  refine fun i => ⟨?_, pageCrossPenalty_opcode i⟩
  obtain ⟨r, hmem, hrow, b, c, rfl⟩ := exists_row_fill i
  simp only [publishedCycles, hrow, rows_baseCycles b c r hmem]

/-! ## Reset -/

/-- Settles O15: the command is the construction state with the memory and the parameters put back. -/
theorem resetCommandGivesTheConstructionState : Obligations.ResetCommandGivesTheConstructionState := by
  refine ⟨fun s => ⟨⟨rfl, rfl, rfl, rfl, rfl⟩, rfl, rfl, rfl, rfl, rfl, rfl⟩, fun s u hcfg => ?_, rfl, fun _ => rfl⟩
  simp [resetCommand, State.setMem, hcfg]

end Sys2Proof.Machine
end
